-- ==== Sys2Proof/Word.lean ====
section
/-! DEFINITION. The words of the core, by width. Bit 0 is the least significant (00_scope.md R10). -/

namespace Sys2Proof

/-- 8-bit values: mode-table entries, colour channels (10_state.md R43). -/
abbrev W8 := BitVec 8

/-- 16-bit values: TG registers and TRAM words (10_state.md R45, R47). -/
abbrev W16 := BitVec 16

/-- 24-bit values: CLUT entries and display colours, RGB order (10_state.md R44). -/
abbrev W24 := BitVec 24

/-- 32-bit values: CE registers and plane cells (00_scope.md R9, 10_state.md R41). -/
abbrev W32 := BitVec 32

/-- 64-bit values: the host data port (10_state.md R38). -/
abbrev W64 := BitVec 64

end Sys2Proof
end

