-- ==== Sys2Proof/Machine/Bus.lean ====
section
/-! DEFINITION. The names of the host-visible registers, the requests the agents make of the core and what the core gives
out: the types of the core's boundary (00_scope.md R7, R8; 30_encoding.md R81, R86, R98). -/

namespace Sys2Proof.Machine

/-- The 32-bit CE registers that have storage of their own (30_encoding.md R86, 10_state.md R23 to R37). -/
inductive Reg where
  | drawmode0 | drawmode1 | wrmask | colori
  | xstart | ystart | xend | yend
  | xymove | clipmin | clipmax
  | red | green | blue | alpha | zacc
  | slopeR | slopeG | slopeB | slopeA | slopeZ
  | stipx0 | stipx1 | stipx2 | stipx3 | stipx4
  | stipy0 | stipy1 | stipy2 | stipy3 | stipy4
  | bresErr | bresInc1 | bresInc2 | bresCount | bresOctant
  | curxy
  | dcbmode | dcbdata0 | dcbdata1
deriving DecidableEq, Repr

/-- The rows of the register map 30_encoding.md R86: the stored registers, the two views, STATUS and HOSTDATA. -/
inductive HostReg where
  | ce (r : Reg)
  | xystarti
  | xyendi
  | status
  | hostdata
deriving DecidableEq, Repr

/-- The four framebuffer planes (10_state.md R41). -/
inductive PlaneId where
  | primary | overlay | popup | cid
deriving DecidableEq, Repr

/-- The two instances of the PMR and of the CLUT (00_scope.md R9, R42, R44). -/
inductive Inst where
  | zero | one
deriving DecidableEq, Repr

/-- The placeholder sub-devices: analogue output stage and two auxiliary latches (10_state.md R49). -/
inductive AuxId where
  | analog | latch0 | latch1
deriving DecidableEq, Repr

/-- The direction of a host transfer, `XF.dir` (10_state.md R39): 0 = host to frame, 1 = frame to host. -/
inductive XferDir where
  | hostToFrame | frameToHost
deriving DecidableEq, Repr

/-- A step direction, -1 or +1 (10_state.md R39). -/
inductive Sign where
  | neg | pos
deriving DecidableEq, Repr

/-- A query of the display-refresh collaborator, selected by name (30_encoding.md R98; 47_timing_cursor.md,
45_pixel_mode_resolver.md, 46_color_lookup.md). Operands are integers; log 11 says which of them the decoder refuses. -/
inductive Query where
  | readoutX0 | readoutY0 | readoutX1 | readoutY1
  | beginDidLine (y : Nat)
  | nextDidLineEntry
  | didFor (y x : Int)
  | getCursorPixel (x y : Int)
  | displayPixel (x y : Int)
  | paletteBase (c : Nat)
  | is8bpp
  | modeEntry (j : Nat)
  | cursorCmap | popupCmap
deriving DecidableEq, Repr

/-- A request of one agent, still to be decoded (30_encoding.md R81, R90, R91, R98).
A host access is the 14-bit key of R81 and, for a write, the value and the optional mask of the bus contract
`write(offset, value[, mask])` (R111); a width-4 access uses the low 32 bits of both (log 9).
`command` and `dcb` are the keys of R90 and R91, standing alone (log 4). -/
inductive Request where
  | host (key : BitVec 14) (value : W64) (mask : Option W64)
  | command (key : BitVec 5)
  | dcb (key : BitVec 9)
  | query (q : Query)
  | timeout
  | hardReset
  | softReset
deriving DecidableEq, Repr

/-- What a step gives out: read values, query results and the edges of the two output signals
(00_scope.md R14, 10_state.md R51). -/
inductive Output where
  /-- The value of a width-4 read (R112). -/
  | data32 (v : W32)
  /-- The value of a width-8 read (R112, R128). -/
  | data64 (v : W64)
  /-- One edge on the vertical-interrupt output (R14, R321). -/
  | vint
  /-- One edge on the timing-changed output (R14, R300). -/
  | timingChanged
  /-- A readout query's integer (R301). -/
  | readout (v : Int)
  /-- A DID entry (XSTART, DID), or NONE (R306, R307). -/
  | didEntry (e : Option (BitVec 11 × BitVec 5))
  /-- A pixel-mode index (R308). -/
  | did (d : BitVec 5)
  /-- CURSOR(rgb), or NO_CURSOR (R312). -/
  | cursor (c : Option W24)
  /-- A displayed colour, RGB order (R323). -/
  | pixel (rgb : W24)
  /-- A whole CLUT table, entry 0 first (R280). -/
  | palette (t : List W24)
  /-- The answer of `is_8bpp` (R253). -/
  | flag (b : Bool)
  /-- A decoded mode-table entry (R257). -/
  | modeEntry (bank : BitVec 5) (cmap : Bool) (depthclass : BitVec 2)
  /-- A colormap bank (R255). -/
  | bank (b : BitVec 5)
deriving DecidableEq, Repr

end Sys2Proof.Machine
end

