-- ==== Sys2Proof/Syntax.lean ====
section
/-! DEFINITION. The instructions of the core: one constructor for each row of spec/opcode_table.json: the rows
with operands first, each group in the table's order (Lean compiles at most 244 constructors that hold data, so these come first).
An instruction is one operation an agent runs (00_scope.md R7). `v` and `m` are the value and the lane mask of a host
write (30_encoding.md R81); `copy` and `dir` are the bits of DRAWMODE0 4:0 that a command row leaves free (R90); `k` is the
free part of a DCB key (R91). -/

namespace Sys2Proof

/-- One constructor per row of spec/opcode_table.json (LAWS.json maps each to its row's mnemonic). -/
inductive Instr where
  -- HOST_ACCESS (`r` a read, `ra` a read at the GO alias, `w` a write, `g` a write at the GO alias), with operands
  | wDrawmode0 (v m : W32)
  | gDrawmode0 (v m : W32)
  | wDrawmode1 (v m : W32)
  | gDrawmode1 (v m : W32)
  | wWrmask (v m : W32)
  | gWrmask (v m : W32)
  | wColori (v m : W32)
  | gColori (v m : W32)
  | wXstart (v m : W32)
  | gXstart (v m : W32)
  | wYstart (v m : W32)
  | gYstart (v m : W32)
  | wXend (v m : W32)
  | gXend (v m : W32)
  | wYend (v m : W32)
  | gYend (v m : W32)
  | wXystarti (v m : W32)
  | gXystarti (v m : W32)
  | wXyendi (v m : W32)
  | gXyendi (v m : W32)
  | wXymove (v m : W32)
  | gXymove (v m : W32)
  | wClipmin (v m : W32)
  | gClipmin (v m : W32)
  | wClipmax (v m : W32)
  | gClipmax (v m : W32)
  | wRed (v m : W32)
  | gRed (v m : W32)
  | wGreen (v m : W32)
  | gGreen (v m : W32)
  | wBlue (v m : W32)
  | gBlue (v m : W32)
  | wAlpha (v m : W32)
  | gAlpha (v m : W32)
  | wZacc (v m : W32)
  | gZacc (v m : W32)
  | wSlopeR (v m : W32)
  | gSlopeR (v m : W32)
  | wSlopeG (v m : W32)
  | gSlopeG (v m : W32)
  | wSlopeB (v m : W32)
  | gSlopeB (v m : W32)
  | wSlopeA (v m : W32)
  | gSlopeA (v m : W32)
  | wSlopeZ (v m : W32)
  | gSlopeZ (v m : W32)
  | wStipx0 (v m : W32)
  | gStipx0 (v m : W32)
  | wStipx1 (v m : W32)
  | gStipx1 (v m : W32)
  | wStipx2 (v m : W32)
  | gStipx2 (v m : W32)
  | wStipx3 (v m : W32)
  | gStipx3 (v m : W32)
  | wStipx4 (v m : W32)
  | gStipx4 (v m : W32)
  | wStipy0 (v m : W32)
  | gStipy0 (v m : W32)
  | wStipy1 (v m : W32)
  | gStipy1 (v m : W32)
  | wStipy2 (v m : W32)
  | gStipy2 (v m : W32)
  | wStipy3 (v m : W32)
  | gStipy3 (v m : W32)
  | wStipy4 (v m : W32)
  | gStipy4 (v m : W32)
  | wBresErr (v m : W32)
  | gBresErr (v m : W32)
  | wBresInc1 (v m : W32)
  | gBresInc1 (v m : W32)
  | wBresInc2 (v m : W32)
  | gBresInc2 (v m : W32)
  | wBresCount (v m : W32)
  | gBresCount (v m : W32)
  | wBresOctant (v m : W32)
  | gBresOctant (v m : W32)
  | wCurxy (v m : W32)
  | gCurxy (v m : W32)
  | wStatus (v m : W32)
  | gStatus (v m : W32)
  | wDcbmode (v m : W32)
  | gDcbmode (v m : W32)
  | wDcbdata0 (v m : W32)
  | gDcbdata0 (v m : W32)
  | wDcbdata1 (v m : W32)
  | gDcbdata1 (v m : W32)
  | w64Hostdata (v m : W64)
  | g64Hostdata (v m : W64)
  -- GO_COMMAND, with operands
  | nop (copy dir : Bool)
  | pixel (copy dir : Bool)
  | line (copy dir : Bool)
  | blockFill (dir : Bool)
  | blockCopy (dir : Bool)
  | hostToFrame (copy : Bool)
  | frameToHost (copy : Bool)
  | reservedCmd5 (copy dir : Bool)
  | reservedCmd6 (copy dir : Bool)
  | reservedCmd7 (copy dir : Bool)
  -- DCB_TXN, with operands
  | dcbwTgReserved12to15 (k : BitVec 2)
  | dcbwClut01Reserved4to7 (k : BitVec 2)
  | dcbwClut01Reserved8to15 (k : BitVec 3)
  | dcbwClut0Reserved4to7 (k : BitVec 2)
  | dcbwClut0Reserved8to15 (k : BitVec 3)
  | dcbwClut1Reserved4to7 (k : BitVec 2)
  | dcbwClut1Reserved8to15 (k : BitVec 3)
  | dcbwPmr01Reserved8to15 (k : BitVec 3)
  | dcbwPmr0Reserved8to15 (k : BitVec 3)
  | dcbwPmr1Reserved8to15 (k : BitVec 3)
  | dcbwAnalogR (k : BitVec 4)
  | dcbwLatch0R (k : BitVec 4)
  | dcbwLatch1R (k : BitVec 4)
  | dcbwNone10to11 (k : BitVec 5)
  | dcbwNone12to15 (k : BitVec 6)
  | dcbrTgReserved12to15 (k : BitVec 2)
  | dcbrClut01Reserved4to7 (k : BitVec 2)
  | dcbrClut01Reserved8to15 (k : BitVec 3)
  | dcbrClut0Reserved4to7 (k : BitVec 2)
  | dcbrClut0Reserved8to15 (k : BitVec 3)
  | dcbrClut1Reserved4to7 (k : BitVec 2)
  | dcbrClut1Reserved8to15 (k : BitVec 3)
  | dcbrPmr01Reserved8to15 (k : BitVec 3)
  | dcbrPmr0Reserved8to15 (k : BitVec 3)
  | dcbrPmr1Reserved8to15 (k : BitVec 3)
  | dcbrAnalogR (k : BitVec 4)
  | dcbrLatch0R (k : BitVec 4)
  | dcbrLatch1R (k : BitVec 4)
  | dcbrNone10to11 (k : BitVec 5)
  | dcbrNone12to15 (k : BitVec 6)
  -- QUERY, with operands
  | beginDidLine (y : Nat)
  | didFor (y x : Int)
  | getCursorPixel (x y : Int)
  | displayPixel (x y : Int)
  | paletteBase (c : Nat)
  | modeEntry (j : Nat)
  -- HOST_ACCESS (`r` a read, `ra` a read at the GO alias, `w` a write, `g` a write at the GO alias), without operands
  | rDrawmode0
  | raDrawmode0
  | rDrawmode1
  | raDrawmode1
  | rWrmask
  | raWrmask
  | rColori
  | raColori
  | rXstart
  | raXstart
  | rYstart
  | raYstart
  | rXend
  | raXend
  | rYend
  | raYend
  | rXystarti
  | raXystarti
  | rXyendi
  | raXyendi
  | rXymove
  | raXymove
  | rClipmin
  | raClipmin
  | rClipmax
  | raClipmax
  | rRed
  | raRed
  | rGreen
  | raGreen
  | rBlue
  | raBlue
  | rAlpha
  | raAlpha
  | rZacc
  | raZacc
  | rSlopeR
  | raSlopeR
  | rSlopeG
  | raSlopeG
  | rSlopeB
  | raSlopeB
  | rSlopeA
  | raSlopeA
  | rSlopeZ
  | raSlopeZ
  | rStipx0
  | raStipx0
  | rStipx1
  | raStipx1
  | rStipx2
  | raStipx2
  | rStipx3
  | raStipx3
  | rStipx4
  | raStipx4
  | rStipy0
  | raStipy0
  | rStipy1
  | raStipy1
  | rStipy2
  | raStipy2
  | rStipy3
  | raStipy3
  | rStipy4
  | raStipy4
  | rBresErr
  | raBresErr
  | rBresInc1
  | raBresInc1
  | rBresInc2
  | raBresInc2
  | rBresCount
  | raBresCount
  | rBresOctant
  | raBresOctant
  | rCurxy
  | raCurxy
  | rStatus
  | raStatus
  | rDcbmode
  | raDcbmode
  | rDcbdata0
  | raDcbdata0
  | rDcbdata1
  | raDcbdata1
  | r64Hostdata
  | r64aHostdata
  -- DCB_TXN, without operands
  | dcbwTgVtFramePtr
  | dcbwTgVtLinePtr
  | dcbwTgDidFramePtr
  | dcbwTgCursorGlyphPtr
  | dcbwTgCursorX
  | dcbwTgCursorY
  | dcbwTgDisplayCtrl
  | dcbwTgVintLine
  | dcbwTgRamAddr
  | dcbwTgRamData
  | dcbwTgRevision
  | dcbwTgReserved11
  | dcbwClut01Index
  | dcbwClut01Data
  | dcbwClut01Revision
  | dcbwClut01Reserved3
  | dcbwClut0Index
  | dcbwClut0Data
  | dcbwClut0Revision
  | dcbwClut0Reserved3
  | dcbwClut1Index
  | dcbwClut1Data
  | dcbwClut1Revision
  | dcbwClut1Reserved3
  | dcbwPmr01Config
  | dcbwPmr01Revision
  | dcbwPmr01Fifoavail
  | dcbwPmr01CursorCmap
  | dcbwPmr01PopupCmap
  | dcbwPmr01ModeIndex
  | dcbwPmr01ModeData
  | dcbwPmr01Reserved7
  | dcbwPmr0Config
  | dcbwPmr0Revision
  | dcbwPmr0Fifoavail
  | dcbwPmr0CursorCmap
  | dcbwPmr0PopupCmap
  | dcbwPmr0ModeIndex
  | dcbwPmr0ModeData
  | dcbwPmr0Reserved7
  | dcbwPmr1Config
  | dcbwPmr1Revision
  | dcbwPmr1Fifoavail
  | dcbwPmr1CursorCmap
  | dcbwPmr1PopupCmap
  | dcbwPmr1ModeIndex
  | dcbwPmr1ModeData
  | dcbwPmr1Reserved7
  | dcbrTgVtFramePtr
  | dcbrTgVtLinePtr
  | dcbrTgDidFramePtr
  | dcbrTgCursorGlyphPtr
  | dcbrTgCursorX
  | dcbrTgCursorY
  | dcbrTgDisplayCtrl
  | dcbrTgVintLine
  | dcbrTgRamAddr
  | dcbrTgRamData
  | dcbrTgRevision
  | dcbrTgReserved11
  | dcbrClut01Index
  | dcbrClut01Data
  | dcbrClut01Revision
  | dcbrClut01Reserved3
  | dcbrClut0Index
  | dcbrClut0Data
  | dcbrClut0Revision
  | dcbrClut0Reserved3
  | dcbrClut1Index
  | dcbrClut1Data
  | dcbrClut1Revision
  | dcbrClut1Reserved3
  | dcbrPmr01Config
  | dcbrPmr01Revision
  | dcbrPmr01Fifoavail
  | dcbrPmr01CursorCmap
  | dcbrPmr01PopupCmap
  | dcbrPmr01ModeIndex
  | dcbrPmr01ModeData
  | dcbrPmr01Reserved7
  | dcbrPmr0Config
  | dcbrPmr0Revision
  | dcbrPmr0Fifoavail
  | dcbrPmr0CursorCmap
  | dcbrPmr0PopupCmap
  | dcbrPmr0ModeIndex
  | dcbrPmr0ModeData
  | dcbrPmr0Reserved7
  | dcbrPmr1Config
  | dcbrPmr1Revision
  | dcbrPmr1Fifoavail
  | dcbrPmr1CursorCmap
  | dcbrPmr1PopupCmap
  | dcbrPmr1ModeIndex
  | dcbrPmr1ModeData
  | dcbrPmr1Reserved7
  -- QUERY, without operands
  | readoutX0
  | readoutY0
  | readoutX1
  | readoutY1
  | nextDidLineEntry
  | is8bpp
  | cursorCmap
  | popupCmap
  -- EVENT, without operands
  | dcbTimeout
  -- RESET, without operands
  | hardReset
  | softReset
deriving DecidableEq, Repr

end Sys2Proof
end

