-- ==== Sys2Proof/WellFormed.lean ====
section
/-! DEFINITION. Which instructions are well formed. Operands of a fixed width are so by their type; the one check is on the
CLUT instance a query names (log 11). -/

namespace Sys2Proof

/-- There are two CLUT instances, 0 and 1 (46_color_lookup.md R271). -/
def clutInstanceOk (c : Nat) : Bool := decide (c < 2)

/-- An instruction is well formed when its operands are in the ranges the spec gives them. -/
def Instr.wf (i : Instr) : Bool :=
  match i with
  | .rDrawmode0 => true
  | .raDrawmode0 => true
  | .wDrawmode0 _ _ => true
  | .gDrawmode0 _ _ => true
  | .rDrawmode1 => true
  | .raDrawmode1 => true
  | .wDrawmode1 _ _ => true
  | .gDrawmode1 _ _ => true
  | .rWrmask => true
  | .raWrmask => true
  | .wWrmask _ _ => true
  | .gWrmask _ _ => true
  | .rColori => true
  | .raColori => true
  | .wColori _ _ => true
  | .gColori _ _ => true
  | .rXstart => true
  | .raXstart => true
  | .wXstart _ _ => true
  | .gXstart _ _ => true
  | .rYstart => true
  | .raYstart => true
  | .wYstart _ _ => true
  | .gYstart _ _ => true
  | .rXend => true
  | .raXend => true
  | .wXend _ _ => true
  | .gXend _ _ => true
  | .rYend => true
  | .raYend => true
  | .wYend _ _ => true
  | .gYend _ _ => true
  | .rXystarti => true
  | .raXystarti => true
  | .wXystarti _ _ => true
  | .gXystarti _ _ => true
  | .rXyendi => true
  | .raXyendi => true
  | .wXyendi _ _ => true
  | .gXyendi _ _ => true
  | .rXymove => true
  | .raXymove => true
  | .wXymove _ _ => true
  | .gXymove _ _ => true
  | .rClipmin => true
  | .raClipmin => true
  | .wClipmin _ _ => true
  | .gClipmin _ _ => true
  | .rClipmax => true
  | .raClipmax => true
  | .wClipmax _ _ => true
  | .gClipmax _ _ => true
  | .rRed => true
  | .raRed => true
  | .wRed _ _ => true
  | .gRed _ _ => true
  | .rGreen => true
  | .raGreen => true
  | .wGreen _ _ => true
  | .gGreen _ _ => true
  | .rBlue => true
  | .raBlue => true
  | .wBlue _ _ => true
  | .gBlue _ _ => true
  | .rAlpha => true
  | .raAlpha => true
  | .wAlpha _ _ => true
  | .gAlpha _ _ => true
  | .rZacc => true
  | .raZacc => true
  | .wZacc _ _ => true
  | .gZacc _ _ => true
  | .rSlopeR => true
  | .raSlopeR => true
  | .wSlopeR _ _ => true
  | .gSlopeR _ _ => true
  | .rSlopeG => true
  | .raSlopeG => true
  | .wSlopeG _ _ => true
  | .gSlopeG _ _ => true
  | .rSlopeB => true
  | .raSlopeB => true
  | .wSlopeB _ _ => true
  | .gSlopeB _ _ => true
  | .rSlopeA => true
  | .raSlopeA => true
  | .wSlopeA _ _ => true
  | .gSlopeA _ _ => true
  | .rSlopeZ => true
  | .raSlopeZ => true
  | .wSlopeZ _ _ => true
  | .gSlopeZ _ _ => true
  | .rStipx0 => true
  | .raStipx0 => true
  | .wStipx0 _ _ => true
  | .gStipx0 _ _ => true
  | .rStipx1 => true
  | .raStipx1 => true
  | .wStipx1 _ _ => true
  | .gStipx1 _ _ => true
  | .rStipx2 => true
  | .raStipx2 => true
  | .wStipx2 _ _ => true
  | .gStipx2 _ _ => true
  | .rStipx3 => true
  | .raStipx3 => true
  | .wStipx3 _ _ => true
  | .gStipx3 _ _ => true
  | .rStipx4 => true
  | .raStipx4 => true
  | .wStipx4 _ _ => true
  | .gStipx4 _ _ => true
  | .rStipy0 => true
  | .raStipy0 => true
  | .wStipy0 _ _ => true
  | .gStipy0 _ _ => true
  | .rStipy1 => true
  | .raStipy1 => true
  | .wStipy1 _ _ => true
  | .gStipy1 _ _ => true
  | .rStipy2 => true
  | .raStipy2 => true
  | .wStipy2 _ _ => true
  | .gStipy2 _ _ => true
  | .rStipy3 => true
  | .raStipy3 => true
  | .wStipy3 _ _ => true
  | .gStipy3 _ _ => true
  | .rStipy4 => true
  | .raStipy4 => true
  | .wStipy4 _ _ => true
  | .gStipy4 _ _ => true
  | .rBresErr => true
  | .raBresErr => true
  | .wBresErr _ _ => true
  | .gBresErr _ _ => true
  | .rBresInc1 => true
  | .raBresInc1 => true
  | .wBresInc1 _ _ => true
  | .gBresInc1 _ _ => true
  | .rBresInc2 => true
  | .raBresInc2 => true
  | .wBresInc2 _ _ => true
  | .gBresInc2 _ _ => true
  | .rBresCount => true
  | .raBresCount => true
  | .wBresCount _ _ => true
  | .gBresCount _ _ => true
  | .rBresOctant => true
  | .raBresOctant => true
  | .wBresOctant _ _ => true
  | .gBresOctant _ _ => true
  | .rCurxy => true
  | .raCurxy => true
  | .wCurxy _ _ => true
  | .gCurxy _ _ => true
  | .rStatus => true
  | .raStatus => true
  | .wStatus _ _ => true
  | .gStatus _ _ => true
  | .rDcbmode => true
  | .raDcbmode => true
  | .wDcbmode _ _ => true
  | .gDcbmode _ _ => true
  | .rDcbdata0 => true
  | .raDcbdata0 => true
  | .wDcbdata0 _ _ => true
  | .gDcbdata0 _ _ => true
  | .rDcbdata1 => true
  | .raDcbdata1 => true
  | .wDcbdata1 _ _ => true
  | .gDcbdata1 _ _ => true
  | .r64Hostdata => true
  | .r64aHostdata => true
  | .w64Hostdata _ _ => true
  | .g64Hostdata _ _ => true
  | .nop _ _ => true
  | .pixel _ _ => true
  | .line _ _ => true
  | .blockFill _ => true
  | .blockCopy _ => true
  | .hostToFrame _ => true
  | .frameToHost _ => true
  | .reservedCmd5 _ _ => true
  | .reservedCmd6 _ _ => true
  | .reservedCmd7 _ _ => true
  | .dcbwTgVtFramePtr => true
  | .dcbwTgVtLinePtr => true
  | .dcbwTgDidFramePtr => true
  | .dcbwTgCursorGlyphPtr => true
  | .dcbwTgCursorX => true
  | .dcbwTgCursorY => true
  | .dcbwTgDisplayCtrl => true
  | .dcbwTgVintLine => true
  | .dcbwTgRamAddr => true
  | .dcbwTgRamData => true
  | .dcbwTgRevision => true
  | .dcbwTgReserved11 => true
  | .dcbwTgReserved12to15 _ => true
  | .dcbwClut01Index => true
  | .dcbwClut01Data => true
  | .dcbwClut01Revision => true
  | .dcbwClut01Reserved3 => true
  | .dcbwClut01Reserved4to7 _ => true
  | .dcbwClut01Reserved8to15 _ => true
  | .dcbwClut0Index => true
  | .dcbwClut0Data => true
  | .dcbwClut0Revision => true
  | .dcbwClut0Reserved3 => true
  | .dcbwClut0Reserved4to7 _ => true
  | .dcbwClut0Reserved8to15 _ => true
  | .dcbwClut1Index => true
  | .dcbwClut1Data => true
  | .dcbwClut1Revision => true
  | .dcbwClut1Reserved3 => true
  | .dcbwClut1Reserved4to7 _ => true
  | .dcbwClut1Reserved8to15 _ => true
  | .dcbwPmr01Config => true
  | .dcbwPmr01Revision => true
  | .dcbwPmr01Fifoavail => true
  | .dcbwPmr01CursorCmap => true
  | .dcbwPmr01PopupCmap => true
  | .dcbwPmr01ModeIndex => true
  | .dcbwPmr01ModeData => true
  | .dcbwPmr01Reserved7 => true
  | .dcbwPmr01Reserved8to15 _ => true
  | .dcbwPmr0Config => true
  | .dcbwPmr0Revision => true
  | .dcbwPmr0Fifoavail => true
  | .dcbwPmr0CursorCmap => true
  | .dcbwPmr0PopupCmap => true
  | .dcbwPmr0ModeIndex => true
  | .dcbwPmr0ModeData => true
  | .dcbwPmr0Reserved7 => true
  | .dcbwPmr0Reserved8to15 _ => true
  | .dcbwPmr1Config => true
  | .dcbwPmr1Revision => true
  | .dcbwPmr1Fifoavail => true
  | .dcbwPmr1CursorCmap => true
  | .dcbwPmr1PopupCmap => true
  | .dcbwPmr1ModeIndex => true
  | .dcbwPmr1ModeData => true
  | .dcbwPmr1Reserved7 => true
  | .dcbwPmr1Reserved8to15 _ => true
  | .dcbwAnalogR _ => true
  | .dcbwLatch0R _ => true
  | .dcbwLatch1R _ => true
  | .dcbwNone10to11 _ => true
  | .dcbwNone12to15 _ => true
  | .dcbrTgVtFramePtr => true
  | .dcbrTgVtLinePtr => true
  | .dcbrTgDidFramePtr => true
  | .dcbrTgCursorGlyphPtr => true
  | .dcbrTgCursorX => true
  | .dcbrTgCursorY => true
  | .dcbrTgDisplayCtrl => true
  | .dcbrTgVintLine => true
  | .dcbrTgRamAddr => true
  | .dcbrTgRamData => true
  | .dcbrTgRevision => true
  | .dcbrTgReserved11 => true
  | .dcbrTgReserved12to15 _ => true
  | .dcbrClut01Index => true
  | .dcbrClut01Data => true
  | .dcbrClut01Revision => true
  | .dcbrClut01Reserved3 => true
  | .dcbrClut01Reserved4to7 _ => true
  | .dcbrClut01Reserved8to15 _ => true
  | .dcbrClut0Index => true
  | .dcbrClut0Data => true
  | .dcbrClut0Revision => true
  | .dcbrClut0Reserved3 => true
  | .dcbrClut0Reserved4to7 _ => true
  | .dcbrClut0Reserved8to15 _ => true
  | .dcbrClut1Index => true
  | .dcbrClut1Data => true
  | .dcbrClut1Revision => true
  | .dcbrClut1Reserved3 => true
  | .dcbrClut1Reserved4to7 _ => true
  | .dcbrClut1Reserved8to15 _ => true
  | .dcbrPmr01Config => true
  | .dcbrPmr01Revision => true
  | .dcbrPmr01Fifoavail => true
  | .dcbrPmr01CursorCmap => true
  | .dcbrPmr01PopupCmap => true
  | .dcbrPmr01ModeIndex => true
  | .dcbrPmr01ModeData => true
  | .dcbrPmr01Reserved7 => true
  | .dcbrPmr01Reserved8to15 _ => true
  | .dcbrPmr0Config => true
  | .dcbrPmr0Revision => true
  | .dcbrPmr0Fifoavail => true
  | .dcbrPmr0CursorCmap => true
  | .dcbrPmr0PopupCmap => true
  | .dcbrPmr0ModeIndex => true
  | .dcbrPmr0ModeData => true
  | .dcbrPmr0Reserved7 => true
  | .dcbrPmr0Reserved8to15 _ => true
  | .dcbrPmr1Config => true
  | .dcbrPmr1Revision => true
  | .dcbrPmr1Fifoavail => true
  | .dcbrPmr1CursorCmap => true
  | .dcbrPmr1PopupCmap => true
  | .dcbrPmr1ModeIndex => true
  | .dcbrPmr1ModeData => true
  | .dcbrPmr1Reserved7 => true
  | .dcbrPmr1Reserved8to15 _ => true
  | .dcbrAnalogR _ => true
  | .dcbrLatch0R _ => true
  | .dcbrLatch1R _ => true
  | .dcbrNone10to11 _ => true
  | .dcbrNone12to15 _ => true
  | .readoutX0 => true
  | .readoutY0 => true
  | .readoutX1 => true
  | .readoutY1 => true
  | .beginDidLine _ => true
  | .nextDidLineEntry => true
  | .didFor _ _ => true
  | .getCursorPixel _ _ => true
  | .displayPixel _ _ => true
  | .paletteBase c => clutInstanceOk c
  | .is8bpp => true
  | .modeEntry _ => true
  | .cursorCmap => true
  | .popupCmap => true
  | .dcbTimeout => true
  | .hardReset => true
  | .softReset => true

end Sys2Proof
end

