-- ==== Sys2Proof/Decode.lean ====
section
/-! DEFINITION. The decoder, total on every request, and the encoder (30_encoding.md). A host access whose key is no row of
the table is an invalid access and is rejected by that name (R98, R115); a `palette_base` of an instance there is not is rejected
by a name of its own (log 11). -/

namespace Sys2Proof

open Sys2Proof.Machine

/-- Why a request is no instruction. -/
inductive DecodeError where
  /-- A host read of no register of R86 (R115); `w8` is its width bit. -/
  | invalidRead (w8 : Bool)
  /-- A host write of no register of R86 (R115). -/
  | invalidWrite
  /-- A CLUT instance other than 0 and 1 (R271). -/
  | noSuchClut (c : Nat)
deriving DecidableEq, Repr

/-! ## The register map (30_encoding.md R86) -/

/-- Every register of R86, in the order of the table. -/
def hostRegs : List HostReg :=
  [.ce .drawmode0, .ce .drawmode1, .ce .wrmask, .ce .colori, .ce .xstart, .ce .ystart, .ce .xend, .ce .yend,
   .xystarti, .xyendi, .ce .xymove, .ce .clipmin, .ce .clipmax, .ce .red, .ce .green, .ce .blue, .ce .alpha,
   .ce .zacc, .ce .slopeR, .ce .slopeG, .ce .slopeB, .ce .slopeA, .ce .slopeZ, .ce .stipx0, .ce .stipx1,
   .ce .stipx2, .ce .stipx3, .ce .stipx4, .ce .stipy0, .ce .stipy1, .ce .stipy2, .ce .stipy3, .ce .stipy4,
   .ce .bresErr, .ce .bresInc1, .ce .bresInc2, .ce .bresCount, .ce .bresOctant, .ce .curxy, .status,
   .ce .dcbmode, .ce .dcbdata0, .ce .dcbdata1, .hostdata]

/-- The register offset `roff` of R86. -/
def roffOf (r : HostReg) : Nat :=
  match r with
  | .ce .drawmode0 => 0x000
  | .ce .drawmode1 => 0x004
  | .ce .wrmask => 0x008
  | .ce .colori => 0x00C
  | .ce .xstart => 0x010
  | .ce .ystart => 0x014
  | .ce .xend => 0x018
  | .ce .yend => 0x01C
  | .xystarti => 0x020
  | .xyendi => 0x024
  | .ce .xymove => 0x028
  | .ce .clipmin => 0x02C
  | .ce .clipmax => 0x030
  | .ce .red => 0x034
  | .ce .green => 0x038
  | .ce .blue => 0x03C
  | .ce .alpha => 0x040
  | .ce .zacc => 0x044
  | .ce .slopeR => 0x048
  | .ce .slopeG => 0x04C
  | .ce .slopeB => 0x050
  | .ce .slopeA => 0x054
  | .ce .slopeZ => 0x058
  | .ce .stipx0 => 0x060
  | .ce .stipx1 => 0x064
  | .ce .stipx2 => 0x068
  | .ce .stipx3 => 0x06C
  | .ce .stipx4 => 0x070
  | .ce .stipy0 => 0x074
  | .ce .stipy1 => 0x078
  | .ce .stipy2 => 0x07C
  | .ce .stipy3 => 0x080
  | .ce .stipy4 => 0x084
  | .ce .bresErr => 0x088
  | .ce .bresInc1 => 0x08C
  | .ce .bresInc2 => 0x090
  | .ce .bresCount => 0x094
  | .ce .bresOctant => 0x098
  | .ce .curxy => 0x09C
  | .status => 0x0A0
  | .ce .dcbmode => 0x0A4
  | .ce .dcbdata0 => 0x0A8
  | .ce .dcbdata1 => 0x0AC
  | .hostdata => 0x0B0

/-- Whether the register is accessed with width 8 (R83): HOSTDATA alone. -/
def isWide (r : HostReg) : Bool :=
  match r with
  | .hostdata => true
  | .ce _ | .xystarti | .xyendi | .status => false

/-- The register of a width bit and a register offset: `valid(off, n)` of R115 holds exactly when there is one. A misaligned
offset, a wrong width and a reserved offset have none. -/
def hostRegAt (w8 : Bool) (roff : Nat) : Option HostReg :=
  hostRegs.find? (fun r => roffOf r == roff && isWide r == w8)

/-- A read at `roff` (R112). -/
def readInstr (r : HostReg) : Instr :=
  match r with
  | .ce .drawmode0 => .rDrawmode0
  | .ce .drawmode1 => .rDrawmode1
  | .ce .wrmask => .rWrmask
  | .ce .colori => .rColori
  | .ce .xstart => .rXstart
  | .ce .ystart => .rYstart
  | .ce .xend => .rXend
  | .ce .yend => .rYend
  | .xystarti => .rXystarti
  | .xyendi => .rXyendi
  | .ce .xymove => .rXymove
  | .ce .clipmin => .rClipmin
  | .ce .clipmax => .rClipmax
  | .ce .red => .rRed
  | .ce .green => .rGreen
  | .ce .blue => .rBlue
  | .ce .alpha => .rAlpha
  | .ce .zacc => .rZacc
  | .ce .slopeR => .rSlopeR
  | .ce .slopeG => .rSlopeG
  | .ce .slopeB => .rSlopeB
  | .ce .slopeA => .rSlopeA
  | .ce .slopeZ => .rSlopeZ
  | .ce .stipx0 => .rStipx0
  | .ce .stipx1 => .rStipx1
  | .ce .stipx2 => .rStipx2
  | .ce .stipx3 => .rStipx3
  | .ce .stipx4 => .rStipx4
  | .ce .stipy0 => .rStipy0
  | .ce .stipy1 => .rStipy1
  | .ce .stipy2 => .rStipy2
  | .ce .stipy3 => .rStipy3
  | .ce .stipy4 => .rStipy4
  | .ce .bresErr => .rBresErr
  | .ce .bresInc1 => .rBresInc1
  | .ce .bresInc2 => .rBresInc2
  | .ce .bresCount => .rBresCount
  | .ce .bresOctant => .rBresOctant
  | .ce .curxy => .rCurxy
  | .status => .rStatus
  | .ce .dcbmode => .rDcbmode
  | .ce .dcbdata0 => .rDcbdata0
  | .ce .dcbdata1 => .rDcbdata1
  | .hostdata => .r64Hostdata

/-- A read at the GO alias (R130). -/
def readAliasInstr (r : HostReg) : Instr :=
  match r with
  | .ce .drawmode0 => .raDrawmode0
  | .ce .drawmode1 => .raDrawmode1
  | .ce .wrmask => .raWrmask
  | .ce .colori => .raColori
  | .ce .xstart => .raXstart
  | .ce .ystart => .raYstart
  | .ce .xend => .raXend
  | .ce .yend => .raYend
  | .xystarti => .raXystarti
  | .xyendi => .raXyendi
  | .ce .xymove => .raXymove
  | .ce .clipmin => .raClipmin
  | .ce .clipmax => .raClipmax
  | .ce .red => .raRed
  | .ce .green => .raGreen
  | .ce .blue => .raBlue
  | .ce .alpha => .raAlpha
  | .ce .zacc => .raZacc
  | .ce .slopeR => .raSlopeR
  | .ce .slopeG => .raSlopeG
  | .ce .slopeB => .raSlopeB
  | .ce .slopeA => .raSlopeA
  | .ce .slopeZ => .raSlopeZ
  | .ce .stipx0 => .raStipx0
  | .ce .stipx1 => .raStipx1
  | .ce .stipx2 => .raStipx2
  | .ce .stipx3 => .raStipx3
  | .ce .stipx4 => .raStipx4
  | .ce .stipy0 => .raStipy0
  | .ce .stipy1 => .raStipy1
  | .ce .stipy2 => .raStipy2
  | .ce .stipy3 => .raStipy3
  | .ce .stipy4 => .raStipy4
  | .ce .bresErr => .raBresErr
  | .ce .bresInc1 => .raBresInc1
  | .ce .bresInc2 => .raBresInc2
  | .ce .bresCount => .raBresCount
  | .ce .bresOctant => .raBresOctant
  | .ce .curxy => .raCurxy
  | .status => .raStatus
  | .ce .dcbmode => .raDcbmode
  | .ce .dcbdata0 => .raDcbdata0
  | .ce .dcbdata1 => .raDcbdata1
  | .hostdata => .r64aHostdata

/-- A write at `roff` (R113); a width-4 write uses the low 32 bits of value and mask. -/
def writeInstr (r : HostReg) (v m : W64) : Instr :=
  match r with
  | .ce .drawmode0 => .wDrawmode0 (v.setWidth 32) (m.setWidth 32)
  | .ce .drawmode1 => .wDrawmode1 (v.setWidth 32) (m.setWidth 32)
  | .ce .wrmask => .wWrmask (v.setWidth 32) (m.setWidth 32)
  | .ce .colori => .wColori (v.setWidth 32) (m.setWidth 32)
  | .ce .xstart => .wXstart (v.setWidth 32) (m.setWidth 32)
  | .ce .ystart => .wYstart (v.setWidth 32) (m.setWidth 32)
  | .ce .xend => .wXend (v.setWidth 32) (m.setWidth 32)
  | .ce .yend => .wYend (v.setWidth 32) (m.setWidth 32)
  | .xystarti => .wXystarti (v.setWidth 32) (m.setWidth 32)
  | .xyendi => .wXyendi (v.setWidth 32) (m.setWidth 32)
  | .ce .xymove => .wXymove (v.setWidth 32) (m.setWidth 32)
  | .ce .clipmin => .wClipmin (v.setWidth 32) (m.setWidth 32)
  | .ce .clipmax => .wClipmax (v.setWidth 32) (m.setWidth 32)
  | .ce .red => .wRed (v.setWidth 32) (m.setWidth 32)
  | .ce .green => .wGreen (v.setWidth 32) (m.setWidth 32)
  | .ce .blue => .wBlue (v.setWidth 32) (m.setWidth 32)
  | .ce .alpha => .wAlpha (v.setWidth 32) (m.setWidth 32)
  | .ce .zacc => .wZacc (v.setWidth 32) (m.setWidth 32)
  | .ce .slopeR => .wSlopeR (v.setWidth 32) (m.setWidth 32)
  | .ce .slopeG => .wSlopeG (v.setWidth 32) (m.setWidth 32)
  | .ce .slopeB => .wSlopeB (v.setWidth 32) (m.setWidth 32)
  | .ce .slopeA => .wSlopeA (v.setWidth 32) (m.setWidth 32)
  | .ce .slopeZ => .wSlopeZ (v.setWidth 32) (m.setWidth 32)
  | .ce .stipx0 => .wStipx0 (v.setWidth 32) (m.setWidth 32)
  | .ce .stipx1 => .wStipx1 (v.setWidth 32) (m.setWidth 32)
  | .ce .stipx2 => .wStipx2 (v.setWidth 32) (m.setWidth 32)
  | .ce .stipx3 => .wStipx3 (v.setWidth 32) (m.setWidth 32)
  | .ce .stipx4 => .wStipx4 (v.setWidth 32) (m.setWidth 32)
  | .ce .stipy0 => .wStipy0 (v.setWidth 32) (m.setWidth 32)
  | .ce .stipy1 => .wStipy1 (v.setWidth 32) (m.setWidth 32)
  | .ce .stipy2 => .wStipy2 (v.setWidth 32) (m.setWidth 32)
  | .ce .stipy3 => .wStipy3 (v.setWidth 32) (m.setWidth 32)
  | .ce .stipy4 => .wStipy4 (v.setWidth 32) (m.setWidth 32)
  | .ce .bresErr => .wBresErr (v.setWidth 32) (m.setWidth 32)
  | .ce .bresInc1 => .wBresInc1 (v.setWidth 32) (m.setWidth 32)
  | .ce .bresInc2 => .wBresInc2 (v.setWidth 32) (m.setWidth 32)
  | .ce .bresCount => .wBresCount (v.setWidth 32) (m.setWidth 32)
  | .ce .bresOctant => .wBresOctant (v.setWidth 32) (m.setWidth 32)
  | .ce .curxy => .wCurxy (v.setWidth 32) (m.setWidth 32)
  | .status => .wStatus (v.setWidth 32) (m.setWidth 32)
  | .ce .dcbmode => .wDcbmode (v.setWidth 32) (m.setWidth 32)
  | .ce .dcbdata0 => .wDcbdata0 (v.setWidth 32) (m.setWidth 32)
  | .ce .dcbdata1 => .wDcbdata1 (v.setWidth 32) (m.setWidth 32)
  | .hostdata => .w64Hostdata v m

/-- A write at the GO alias (R85, R129). -/
def goInstr (r : HostReg) (v m : W64) : Instr :=
  match r with
  | .ce .drawmode0 => .gDrawmode0 (v.setWidth 32) (m.setWidth 32)
  | .ce .drawmode1 => .gDrawmode1 (v.setWidth 32) (m.setWidth 32)
  | .ce .wrmask => .gWrmask (v.setWidth 32) (m.setWidth 32)
  | .ce .colori => .gColori (v.setWidth 32) (m.setWidth 32)
  | .ce .xstart => .gXstart (v.setWidth 32) (m.setWidth 32)
  | .ce .ystart => .gYstart (v.setWidth 32) (m.setWidth 32)
  | .ce .xend => .gXend (v.setWidth 32) (m.setWidth 32)
  | .ce .yend => .gYend (v.setWidth 32) (m.setWidth 32)
  | .xystarti => .gXystarti (v.setWidth 32) (m.setWidth 32)
  | .xyendi => .gXyendi (v.setWidth 32) (m.setWidth 32)
  | .ce .xymove => .gXymove (v.setWidth 32) (m.setWidth 32)
  | .ce .clipmin => .gClipmin (v.setWidth 32) (m.setWidth 32)
  | .ce .clipmax => .gClipmax (v.setWidth 32) (m.setWidth 32)
  | .ce .red => .gRed (v.setWidth 32) (m.setWidth 32)
  | .ce .green => .gGreen (v.setWidth 32) (m.setWidth 32)
  | .ce .blue => .gBlue (v.setWidth 32) (m.setWidth 32)
  | .ce .alpha => .gAlpha (v.setWidth 32) (m.setWidth 32)
  | .ce .zacc => .gZacc (v.setWidth 32) (m.setWidth 32)
  | .ce .slopeR => .gSlopeR (v.setWidth 32) (m.setWidth 32)
  | .ce .slopeG => .gSlopeG (v.setWidth 32) (m.setWidth 32)
  | .ce .slopeB => .gSlopeB (v.setWidth 32) (m.setWidth 32)
  | .ce .slopeA => .gSlopeA (v.setWidth 32) (m.setWidth 32)
  | .ce .slopeZ => .gSlopeZ (v.setWidth 32) (m.setWidth 32)
  | .ce .stipx0 => .gStipx0 (v.setWidth 32) (m.setWidth 32)
  | .ce .stipx1 => .gStipx1 (v.setWidth 32) (m.setWidth 32)
  | .ce .stipx2 => .gStipx2 (v.setWidth 32) (m.setWidth 32)
  | .ce .stipx3 => .gStipx3 (v.setWidth 32) (m.setWidth 32)
  | .ce .stipx4 => .gStipx4 (v.setWidth 32) (m.setWidth 32)
  | .ce .stipy0 => .gStipy0 (v.setWidth 32) (m.setWidth 32)
  | .ce .stipy1 => .gStipy1 (v.setWidth 32) (m.setWidth 32)
  | .ce .stipy2 => .gStipy2 (v.setWidth 32) (m.setWidth 32)
  | .ce .stipy3 => .gStipy3 (v.setWidth 32) (m.setWidth 32)
  | .ce .stipy4 => .gStipy4 (v.setWidth 32) (m.setWidth 32)
  | .ce .bresErr => .gBresErr (v.setWidth 32) (m.setWidth 32)
  | .ce .bresInc1 => .gBresInc1 (v.setWidth 32) (m.setWidth 32)
  | .ce .bresInc2 => .gBresInc2 (v.setWidth 32) (m.setWidth 32)
  | .ce .bresCount => .gBresCount (v.setWidth 32) (m.setWidth 32)
  | .ce .bresOctant => .gBresOctant (v.setWidth 32) (m.setWidth 32)
  | .ce .curxy => .gCurxy (v.setWidth 32) (m.setWidth 32)
  | .status => .gStatus (v.setWidth 32) (m.setWidth 32)
  | .ce .dcbmode => .gDcbmode (v.setWidth 32) (m.setWidth 32)
  | .ce .dcbdata0 => .gDcbdata0 (v.setWidth 32) (m.setWidth 32)
  | .ce .dcbdata1 => .gDcbdata1 (v.setWidth 32) (m.setWidth 32)
  | .hostdata => .g64Hostdata v m

/-- A host access (R81, R82, R98): key bit 13 is the direction, bit 12 the width, bit 11 GO, bits 10:0 the register offset.
A write without a mask is a write with the all-ones mask (R111). -/
def decodeHost (key : BitVec 14) (value : W64) (mask : Option W64) : Except DecodeError Instr :=
  match hostRegAt (key.getLsbD 12) (key.extractLsb' 0 11).toNat with
  | none => if key.getLsbD 13 then .error .invalidWrite else .error (.invalidRead (key.getLsbD 12))
  | some r =>
    let m := mask.getD (BitVec.allOnes 64)
    match key.getLsbD 13, key.getLsbD 11 with
    | false, false => .ok (readInstr r)
    | false, true => .ok (readAliasInstr r)
    | true, false => .ok (writeInstr r value m)
    | true, true => .ok (goInstr r value m)

/-- The command of DRAWMODE0 bits 4:0 (R90): CMD = bits 2:0, COPY = bit 3, DIR = bit 4. -/
def decodeCommand (key : BitVec 5) : Instr :=
  let copy := key.getLsbD 3
  let dir := key.getLsbD 4
  match (key.extractLsb' 0 3).toNat with
  | 0 => .nop copy dir
  | 1 => .pixel copy dir
  | 2 => .line copy dir
  | 3 => if copy then .blockCopy dir else .blockFill dir
  | 4 => if dir then .frameToHost copy else .hostToFrame copy
  | 5 => .reservedCmd5 copy dir
  | 6 => .reservedCmd6 copy dir
  | _ => .reservedCmd7 copy dir

/-- DCB writes of TG by register select (R93, 10_state.md R45). -/
def dcbWriteTg (r : BitVec 4) : Instr :=
  match r.toNat with
  | 0 => .dcbwTgVtFramePtr
  | 1 => .dcbwTgVtLinePtr
  | 2 => .dcbwTgDidFramePtr
  | 3 => .dcbwTgCursorGlyphPtr
  | 4 => .dcbwTgCursorX
  | 5 => .dcbwTgCursorY
  | 6 => .dcbwTgDisplayCtrl
  | 7 => .dcbwTgVintLine
  | 8 => .dcbwTgRamAddr
  | 9 => .dcbwTgRamData
  | 10 => .dcbwTgRevision
  | 11 => .dcbwTgReserved11
  | _ => .dcbwTgReserved12to15 (r.extractLsb' 0 2)

/-- DCB writes of CLUT01 by register select (R93, 46_color_lookup.md R272). -/
def dcbWriteClut01 (r : BitVec 4) : Instr :=
  match r.toNat with
  | 0 => .dcbwClut01Index
  | 1 => .dcbwClut01Data
  | 2 => .dcbwClut01Revision
  | 3 => .dcbwClut01Reserved3
  | _ => if r.getLsbD 3 then .dcbwClut01Reserved8to15 (r.extractLsb' 0 3) else .dcbwClut01Reserved4to7 (r.extractLsb' 0 2)

/-- DCB writes of CLUT0 by register select (R93, 46_color_lookup.md R272). -/
def dcbWriteClut0 (r : BitVec 4) : Instr :=
  match r.toNat with
  | 0 => .dcbwClut0Index
  | 1 => .dcbwClut0Data
  | 2 => .dcbwClut0Revision
  | 3 => .dcbwClut0Reserved3
  | _ => if r.getLsbD 3 then .dcbwClut0Reserved8to15 (r.extractLsb' 0 3) else .dcbwClut0Reserved4to7 (r.extractLsb' 0 2)

/-- DCB writes of CLUT1 by register select (R93, 46_color_lookup.md R272). -/
def dcbWriteClut1 (r : BitVec 4) : Instr :=
  match r.toNat with
  | 0 => .dcbwClut1Index
  | 1 => .dcbwClut1Data
  | 2 => .dcbwClut1Revision
  | 3 => .dcbwClut1Reserved3
  | _ => if r.getLsbD 3 then .dcbwClut1Reserved8to15 (r.extractLsb' 0 3) else .dcbwClut1Reserved4to7 (r.extractLsb' 0 2)

/-- DCB writes of PMR01 by register select (R93, 10_state.md R42). -/
def dcbWritePmr01 (r : BitVec 4) : Instr :=
  match r.toNat with
  | 0 => .dcbwPmr01Config
  | 1 => .dcbwPmr01Revision
  | 2 => .dcbwPmr01Fifoavail
  | 3 => .dcbwPmr01CursorCmap
  | 4 => .dcbwPmr01PopupCmap
  | 5 => .dcbwPmr01ModeIndex
  | 6 => .dcbwPmr01ModeData
  | 7 => .dcbwPmr01Reserved7
  | _ => .dcbwPmr01Reserved8to15 (r.extractLsb' 0 3)

/-- DCB writes of PMR0 by register select (R93, 10_state.md R42). -/
def dcbWritePmr0 (r : BitVec 4) : Instr :=
  match r.toNat with
  | 0 => .dcbwPmr0Config
  | 1 => .dcbwPmr0Revision
  | 2 => .dcbwPmr0Fifoavail
  | 3 => .dcbwPmr0CursorCmap
  | 4 => .dcbwPmr0PopupCmap
  | 5 => .dcbwPmr0ModeIndex
  | 6 => .dcbwPmr0ModeData
  | 7 => .dcbwPmr0Reserved7
  | _ => .dcbwPmr0Reserved8to15 (r.extractLsb' 0 3)

/-- DCB writes of PMR1 by register select (R93, 10_state.md R42). -/
def dcbWritePmr1 (r : BitVec 4) : Instr :=
  match r.toNat with
  | 0 => .dcbwPmr1Config
  | 1 => .dcbwPmr1Revision
  | 2 => .dcbwPmr1Fifoavail
  | 3 => .dcbwPmr1CursorCmap
  | 4 => .dcbwPmr1PopupCmap
  | 5 => .dcbwPmr1ModeIndex
  | 6 => .dcbwPmr1ModeData
  | 7 => .dcbwPmr1Reserved7
  | _ => .dcbwPmr1Reserved8to15 (r.extractLsb' 0 3)

/-- DCB reads of TG by register select (R93, 10_state.md R45). -/
def dcbReadTg (r : BitVec 4) : Instr :=
  match r.toNat with
  | 0 => .dcbrTgVtFramePtr
  | 1 => .dcbrTgVtLinePtr
  | 2 => .dcbrTgDidFramePtr
  | 3 => .dcbrTgCursorGlyphPtr
  | 4 => .dcbrTgCursorX
  | 5 => .dcbrTgCursorY
  | 6 => .dcbrTgDisplayCtrl
  | 7 => .dcbrTgVintLine
  | 8 => .dcbrTgRamAddr
  | 9 => .dcbrTgRamData
  | 10 => .dcbrTgRevision
  | 11 => .dcbrTgReserved11
  | _ => .dcbrTgReserved12to15 (r.extractLsb' 0 2)

/-- DCB reads of CLUT01 by register select (R93, 46_color_lookup.md R272). -/
def dcbReadClut01 (r : BitVec 4) : Instr :=
  match r.toNat with
  | 0 => .dcbrClut01Index
  | 1 => .dcbrClut01Data
  | 2 => .dcbrClut01Revision
  | 3 => .dcbrClut01Reserved3
  | _ => if r.getLsbD 3 then .dcbrClut01Reserved8to15 (r.extractLsb' 0 3) else .dcbrClut01Reserved4to7 (r.extractLsb' 0 2)

/-- DCB reads of CLUT0 by register select (R93, 46_color_lookup.md R272). -/
def dcbReadClut0 (r : BitVec 4) : Instr :=
  match r.toNat with
  | 0 => .dcbrClut0Index
  | 1 => .dcbrClut0Data
  | 2 => .dcbrClut0Revision
  | 3 => .dcbrClut0Reserved3
  | _ => if r.getLsbD 3 then .dcbrClut0Reserved8to15 (r.extractLsb' 0 3) else .dcbrClut0Reserved4to7 (r.extractLsb' 0 2)

/-- DCB reads of CLUT1 by register select (R93, 46_color_lookup.md R272). -/
def dcbReadClut1 (r : BitVec 4) : Instr :=
  match r.toNat with
  | 0 => .dcbrClut1Index
  | 1 => .dcbrClut1Data
  | 2 => .dcbrClut1Revision
  | 3 => .dcbrClut1Reserved3
  | _ => if r.getLsbD 3 then .dcbrClut1Reserved8to15 (r.extractLsb' 0 3) else .dcbrClut1Reserved4to7 (r.extractLsb' 0 2)

/-- DCB reads of PMR01 by register select (R93, 10_state.md R42). -/
def dcbReadPmr01 (r : BitVec 4) : Instr :=
  match r.toNat with
  | 0 => .dcbrPmr01Config
  | 1 => .dcbrPmr01Revision
  | 2 => .dcbrPmr01Fifoavail
  | 3 => .dcbrPmr01CursorCmap
  | 4 => .dcbrPmr01PopupCmap
  | 5 => .dcbrPmr01ModeIndex
  | 6 => .dcbrPmr01ModeData
  | 7 => .dcbrPmr01Reserved7
  | _ => .dcbrPmr01Reserved8to15 (r.extractLsb' 0 3)

/-- DCB reads of PMR0 by register select (R93, 10_state.md R42). -/
def dcbReadPmr0 (r : BitVec 4) : Instr :=
  match r.toNat with
  | 0 => .dcbrPmr0Config
  | 1 => .dcbrPmr0Revision
  | 2 => .dcbrPmr0Fifoavail
  | 3 => .dcbrPmr0CursorCmap
  | 4 => .dcbrPmr0PopupCmap
  | 5 => .dcbrPmr0ModeIndex
  | 6 => .dcbrPmr0ModeData
  | 7 => .dcbrPmr0Reserved7
  | _ => .dcbrPmr0Reserved8to15 (r.extractLsb' 0 3)

/-- DCB reads of PMR1 by register select (R93, 10_state.md R42). -/
def dcbReadPmr1 (r : BitVec 4) : Instr :=
  match r.toNat with
  | 0 => .dcbrPmr1Config
  | 1 => .dcbrPmr1Revision
  | 2 => .dcbrPmr1Fifoavail
  | 3 => .dcbrPmr1CursorCmap
  | 4 => .dcbrPmr1PopupCmap
  | 5 => .dcbrPmr1ModeIndex
  | 6 => .dcbrPmr1ModeData
  | 7 => .dcbrPmr1Reserved7
  | _ => .dcbrPmr1Reserved8to15 (r.extractLsb' 0 3)

/-- A DCB transaction (R91, R92): key bit 8 is the direction (1 = write), bits 7:4 SLAVESEL, bits 3:0 REGSEL. -/
def decodeDcb (key : BitVec 9) : Instr :=
  let r := key.extractLsb' 0 4
  match key.getLsbD 8, (key.extractLsb' 4 4).toNat with
  | true, 0 => dcbWriteTg r
  | true, 1 => dcbWriteClut01 r
  | true, 2 => dcbWriteClut0 r
  | true, 3 => dcbWriteClut1 r
  | true, 4 => dcbWritePmr01 r
  | true, 5 => dcbWritePmr0 r
  | true, 6 => dcbWritePmr1 r
  | true, 7 => .dcbwAnalogR r
  | true, 8 => .dcbwLatch0R r
  | true, 9 => .dcbwLatch1R r
  | true, 10 | true, 11 => .dcbwNone10to11 (key.extractLsb' 0 5)
  | true, _ => .dcbwNone12to15 (key.extractLsb' 0 6)
  | false, 0 => dcbReadTg r
  | false, 1 => dcbReadClut01 r
  | false, 2 => dcbReadClut0 r
  | false, 3 => dcbReadClut1 r
  | false, 4 => dcbReadPmr01 r
  | false, 5 => dcbReadPmr0 r
  | false, 6 => dcbReadPmr1 r
  | false, 7 => .dcbrAnalogR r
  | false, 8 => .dcbrLatch0R r
  | false, 9 => .dcbrLatch1R r
  | false, 10 | false, 11 => .dcbrNone10to11 (key.extractLsb' 0 5)
  | false, _ => .dcbrNone12to15 (key.extractLsb' 0 6)

/-- A query is selected by name (R98); a CLUT instance there is not is rejected (log 11). -/
def decodeQuery (q : Query) : Except DecodeError Instr :=
  match q with
  | .readoutX0 => .ok .readoutX0
  | .readoutY0 => .ok .readoutY0
  | .readoutX1 => .ok .readoutX1
  | .readoutY1 => .ok .readoutY1
  | .beginDidLine y => .ok (.beginDidLine y)
  | .nextDidLineEntry => .ok .nextDidLineEntry
  | .didFor y x => .ok (.didFor y x)
  | .getCursorPixel x y => .ok (.getCursorPixel x y)
  | .displayPixel x y => .ok (.displayPixel x y)
  | .paletteBase c => if clutInstanceOk c then .ok (.paletteBase c) else .error (.noSuchClut c)
  | .is8bpp => .ok .is8bpp
  | .modeEntry j => .ok (.modeEntry j)
  | .cursorCmap => .ok .cursorCmap
  | .popupCmap => .ok .popupCmap

/-- The decoder: every request is an instruction or is rejected by name (R98). -/
def decode (q : Request) : Except DecodeError Instr :=
  match q with
  | .host key value mask => decodeHost key value mask
  | .command key => .ok (decodeCommand key)
  | .dcb key => .ok (decodeDcb key)
  | .query q => decodeQuery q
  | .timeout => .ok .dcbTimeout
  | .hardReset => .ok .hardReset
  | .softReset => .ok .softReset

/-! ## The encoder -/

/-- The 14-bit key of R81: direction, width, GO bit, register offset. -/
def keyOf (write go : Bool) (r : HostReg) : BitVec 14 :=
  BitVec.ofNat 14 ((if write then 0x2000 else 0) + (if isWide r then 0x1000 else 0) + (if go then 0x800 else 0) + roffOf r)

/-- A read's record: no value, no mask (R81, R84). -/
def encodeRead (go : Bool) (r : HostReg) : Request := .host (keyOf false go r) 0 none

/-- A width-4 write's record (R81, R84). -/
def encodeWrite (go : Bool) (r : HostReg) (v m : W32) : Request :=
  .host (keyOf true go r) (v.setWidth 64) (some (m.setWidth 64))

/-- A width-8 write's record (R81, R84). -/
def encodeWrite64 (go : Bool) (r : HostReg) (v m : W64) : Request := .host (keyOf true go r) v (some m)

/-- A command's key: CMD, COPY, DIR (R90). -/
def encodeCommand (cmd : BitVec 3) (copy dir : Bool) : Request :=
  .command (BitVec.ofBool dir ++ BitVec.ofBool copy ++ cmd)

/-- A DCB key: direction, SLAVESEL, REGSEL (R91). -/
def encodeDcb (write : Bool) (slave reg : BitVec 4) : Request := .dcb (BitVec.ofBool write ++ slave ++ reg)

/-- The request that stands for an instruction: the encoding tables read the other way. -/
def encode (i : Instr) : Request :=
  match i with
  | .rDrawmode0 => encodeRead false (.ce .drawmode0)
  | .raDrawmode0 => encodeRead true (.ce .drawmode0)
  | .wDrawmode0 v m => encodeWrite false (.ce .drawmode0) v m
  | .gDrawmode0 v m => encodeWrite true (.ce .drawmode0) v m
  | .rDrawmode1 => encodeRead false (.ce .drawmode1)
  | .raDrawmode1 => encodeRead true (.ce .drawmode1)
  | .wDrawmode1 v m => encodeWrite false (.ce .drawmode1) v m
  | .gDrawmode1 v m => encodeWrite true (.ce .drawmode1) v m
  | .rWrmask => encodeRead false (.ce .wrmask)
  | .raWrmask => encodeRead true (.ce .wrmask)
  | .wWrmask v m => encodeWrite false (.ce .wrmask) v m
  | .gWrmask v m => encodeWrite true (.ce .wrmask) v m
  | .rColori => encodeRead false (.ce .colori)
  | .raColori => encodeRead true (.ce .colori)
  | .wColori v m => encodeWrite false (.ce .colori) v m
  | .gColori v m => encodeWrite true (.ce .colori) v m
  | .rXstart => encodeRead false (.ce .xstart)
  | .raXstart => encodeRead true (.ce .xstart)
  | .wXstart v m => encodeWrite false (.ce .xstart) v m
  | .gXstart v m => encodeWrite true (.ce .xstart) v m
  | .rYstart => encodeRead false (.ce .ystart)
  | .raYstart => encodeRead true (.ce .ystart)
  | .wYstart v m => encodeWrite false (.ce .ystart) v m
  | .gYstart v m => encodeWrite true (.ce .ystart) v m
  | .rXend => encodeRead false (.ce .xend)
  | .raXend => encodeRead true (.ce .xend)
  | .wXend v m => encodeWrite false (.ce .xend) v m
  | .gXend v m => encodeWrite true (.ce .xend) v m
  | .rYend => encodeRead false (.ce .yend)
  | .raYend => encodeRead true (.ce .yend)
  | .wYend v m => encodeWrite false (.ce .yend) v m
  | .gYend v m => encodeWrite true (.ce .yend) v m
  | .rXystarti => encodeRead false .xystarti
  | .raXystarti => encodeRead true .xystarti
  | .wXystarti v m => encodeWrite false .xystarti v m
  | .gXystarti v m => encodeWrite true .xystarti v m
  | .rXyendi => encodeRead false .xyendi
  | .raXyendi => encodeRead true .xyendi
  | .wXyendi v m => encodeWrite false .xyendi v m
  | .gXyendi v m => encodeWrite true .xyendi v m
  | .rXymove => encodeRead false (.ce .xymove)
  | .raXymove => encodeRead true (.ce .xymove)
  | .wXymove v m => encodeWrite false (.ce .xymove) v m
  | .gXymove v m => encodeWrite true (.ce .xymove) v m
  | .rClipmin => encodeRead false (.ce .clipmin)
  | .raClipmin => encodeRead true (.ce .clipmin)
  | .wClipmin v m => encodeWrite false (.ce .clipmin) v m
  | .gClipmin v m => encodeWrite true (.ce .clipmin) v m
  | .rClipmax => encodeRead false (.ce .clipmax)
  | .raClipmax => encodeRead true (.ce .clipmax)
  | .wClipmax v m => encodeWrite false (.ce .clipmax) v m
  | .gClipmax v m => encodeWrite true (.ce .clipmax) v m
  | .rRed => encodeRead false (.ce .red)
  | .raRed => encodeRead true (.ce .red)
  | .wRed v m => encodeWrite false (.ce .red) v m
  | .gRed v m => encodeWrite true (.ce .red) v m
  | .rGreen => encodeRead false (.ce .green)
  | .raGreen => encodeRead true (.ce .green)
  | .wGreen v m => encodeWrite false (.ce .green) v m
  | .gGreen v m => encodeWrite true (.ce .green) v m
  | .rBlue => encodeRead false (.ce .blue)
  | .raBlue => encodeRead true (.ce .blue)
  | .wBlue v m => encodeWrite false (.ce .blue) v m
  | .gBlue v m => encodeWrite true (.ce .blue) v m
  | .rAlpha => encodeRead false (.ce .alpha)
  | .raAlpha => encodeRead true (.ce .alpha)
  | .wAlpha v m => encodeWrite false (.ce .alpha) v m
  | .gAlpha v m => encodeWrite true (.ce .alpha) v m
  | .rZacc => encodeRead false (.ce .zacc)
  | .raZacc => encodeRead true (.ce .zacc)
  | .wZacc v m => encodeWrite false (.ce .zacc) v m
  | .gZacc v m => encodeWrite true (.ce .zacc) v m
  | .rSlopeR => encodeRead false (.ce .slopeR)
  | .raSlopeR => encodeRead true (.ce .slopeR)
  | .wSlopeR v m => encodeWrite false (.ce .slopeR) v m
  | .gSlopeR v m => encodeWrite true (.ce .slopeR) v m
  | .rSlopeG => encodeRead false (.ce .slopeG)
  | .raSlopeG => encodeRead true (.ce .slopeG)
  | .wSlopeG v m => encodeWrite false (.ce .slopeG) v m
  | .gSlopeG v m => encodeWrite true (.ce .slopeG) v m
  | .rSlopeB => encodeRead false (.ce .slopeB)
  | .raSlopeB => encodeRead true (.ce .slopeB)
  | .wSlopeB v m => encodeWrite false (.ce .slopeB) v m
  | .gSlopeB v m => encodeWrite true (.ce .slopeB) v m
  | .rSlopeA => encodeRead false (.ce .slopeA)
  | .raSlopeA => encodeRead true (.ce .slopeA)
  | .wSlopeA v m => encodeWrite false (.ce .slopeA) v m
  | .gSlopeA v m => encodeWrite true (.ce .slopeA) v m
  | .rSlopeZ => encodeRead false (.ce .slopeZ)
  | .raSlopeZ => encodeRead true (.ce .slopeZ)
  | .wSlopeZ v m => encodeWrite false (.ce .slopeZ) v m
  | .gSlopeZ v m => encodeWrite true (.ce .slopeZ) v m
  | .rStipx0 => encodeRead false (.ce .stipx0)
  | .raStipx0 => encodeRead true (.ce .stipx0)
  | .wStipx0 v m => encodeWrite false (.ce .stipx0) v m
  | .gStipx0 v m => encodeWrite true (.ce .stipx0) v m
  | .rStipx1 => encodeRead false (.ce .stipx1)
  | .raStipx1 => encodeRead true (.ce .stipx1)
  | .wStipx1 v m => encodeWrite false (.ce .stipx1) v m
  | .gStipx1 v m => encodeWrite true (.ce .stipx1) v m
  | .rStipx2 => encodeRead false (.ce .stipx2)
  | .raStipx2 => encodeRead true (.ce .stipx2)
  | .wStipx2 v m => encodeWrite false (.ce .stipx2) v m
  | .gStipx2 v m => encodeWrite true (.ce .stipx2) v m
  | .rStipx3 => encodeRead false (.ce .stipx3)
  | .raStipx3 => encodeRead true (.ce .stipx3)
  | .wStipx3 v m => encodeWrite false (.ce .stipx3) v m
  | .gStipx3 v m => encodeWrite true (.ce .stipx3) v m
  | .rStipx4 => encodeRead false (.ce .stipx4)
  | .raStipx4 => encodeRead true (.ce .stipx4)
  | .wStipx4 v m => encodeWrite false (.ce .stipx4) v m
  | .gStipx4 v m => encodeWrite true (.ce .stipx4) v m
  | .rStipy0 => encodeRead false (.ce .stipy0)
  | .raStipy0 => encodeRead true (.ce .stipy0)
  | .wStipy0 v m => encodeWrite false (.ce .stipy0) v m
  | .gStipy0 v m => encodeWrite true (.ce .stipy0) v m
  | .rStipy1 => encodeRead false (.ce .stipy1)
  | .raStipy1 => encodeRead true (.ce .stipy1)
  | .wStipy1 v m => encodeWrite false (.ce .stipy1) v m
  | .gStipy1 v m => encodeWrite true (.ce .stipy1) v m
  | .rStipy2 => encodeRead false (.ce .stipy2)
  | .raStipy2 => encodeRead true (.ce .stipy2)
  | .wStipy2 v m => encodeWrite false (.ce .stipy2) v m
  | .gStipy2 v m => encodeWrite true (.ce .stipy2) v m
  | .rStipy3 => encodeRead false (.ce .stipy3)
  | .raStipy3 => encodeRead true (.ce .stipy3)
  | .wStipy3 v m => encodeWrite false (.ce .stipy3) v m
  | .gStipy3 v m => encodeWrite true (.ce .stipy3) v m
  | .rStipy4 => encodeRead false (.ce .stipy4)
  | .raStipy4 => encodeRead true (.ce .stipy4)
  | .wStipy4 v m => encodeWrite false (.ce .stipy4) v m
  | .gStipy4 v m => encodeWrite true (.ce .stipy4) v m
  | .rBresErr => encodeRead false (.ce .bresErr)
  | .raBresErr => encodeRead true (.ce .bresErr)
  | .wBresErr v m => encodeWrite false (.ce .bresErr) v m
  | .gBresErr v m => encodeWrite true (.ce .bresErr) v m
  | .rBresInc1 => encodeRead false (.ce .bresInc1)
  | .raBresInc1 => encodeRead true (.ce .bresInc1)
  | .wBresInc1 v m => encodeWrite false (.ce .bresInc1) v m
  | .gBresInc1 v m => encodeWrite true (.ce .bresInc1) v m
  | .rBresInc2 => encodeRead false (.ce .bresInc2)
  | .raBresInc2 => encodeRead true (.ce .bresInc2)
  | .wBresInc2 v m => encodeWrite false (.ce .bresInc2) v m
  | .gBresInc2 v m => encodeWrite true (.ce .bresInc2) v m
  | .rBresCount => encodeRead false (.ce .bresCount)
  | .raBresCount => encodeRead true (.ce .bresCount)
  | .wBresCount v m => encodeWrite false (.ce .bresCount) v m
  | .gBresCount v m => encodeWrite true (.ce .bresCount) v m
  | .rBresOctant => encodeRead false (.ce .bresOctant)
  | .raBresOctant => encodeRead true (.ce .bresOctant)
  | .wBresOctant v m => encodeWrite false (.ce .bresOctant) v m
  | .gBresOctant v m => encodeWrite true (.ce .bresOctant) v m
  | .rCurxy => encodeRead false (.ce .curxy)
  | .raCurxy => encodeRead true (.ce .curxy)
  | .wCurxy v m => encodeWrite false (.ce .curxy) v m
  | .gCurxy v m => encodeWrite true (.ce .curxy) v m
  | .rStatus => encodeRead false .status
  | .raStatus => encodeRead true .status
  | .wStatus v m => encodeWrite false .status v m
  | .gStatus v m => encodeWrite true .status v m
  | .rDcbmode => encodeRead false (.ce .dcbmode)
  | .raDcbmode => encodeRead true (.ce .dcbmode)
  | .wDcbmode v m => encodeWrite false (.ce .dcbmode) v m
  | .gDcbmode v m => encodeWrite true (.ce .dcbmode) v m
  | .rDcbdata0 => encodeRead false (.ce .dcbdata0)
  | .raDcbdata0 => encodeRead true (.ce .dcbdata0)
  | .wDcbdata0 v m => encodeWrite false (.ce .dcbdata0) v m
  | .gDcbdata0 v m => encodeWrite true (.ce .dcbdata0) v m
  | .rDcbdata1 => encodeRead false (.ce .dcbdata1)
  | .raDcbdata1 => encodeRead true (.ce .dcbdata1)
  | .wDcbdata1 v m => encodeWrite false (.ce .dcbdata1) v m
  | .gDcbdata1 v m => encodeWrite true (.ce .dcbdata1) v m
  | .r64Hostdata => encodeRead false .hostdata
  | .r64aHostdata => encodeRead true .hostdata
  | .w64Hostdata v m => encodeWrite64 false .hostdata v m
  | .g64Hostdata v m => encodeWrite64 true .hostdata v m
  | .nop copy dir => encodeCommand 0 copy dir
  | .pixel copy dir => encodeCommand 1 copy dir
  | .line copy dir => encodeCommand 2 copy dir
  | .blockFill dir => encodeCommand 3 false dir
  | .blockCopy dir => encodeCommand 3 true dir
  | .hostToFrame copy => encodeCommand 4 copy false
  | .frameToHost copy => encodeCommand 4 copy true
  | .reservedCmd5 copy dir => encodeCommand 5 copy dir
  | .reservedCmd6 copy dir => encodeCommand 6 copy dir
  | .reservedCmd7 copy dir => encodeCommand 7 copy dir
  | .dcbwTgVtFramePtr => encodeDcb true 0 0
  | .dcbwTgVtLinePtr => encodeDcb true 0 1
  | .dcbwTgDidFramePtr => encodeDcb true 0 2
  | .dcbwTgCursorGlyphPtr => encodeDcb true 0 3
  | .dcbwTgCursorX => encodeDcb true 0 4
  | .dcbwTgCursorY => encodeDcb true 0 5
  | .dcbwTgDisplayCtrl => encodeDcb true 0 6
  | .dcbwTgVintLine => encodeDcb true 0 7
  | .dcbwTgRamAddr => encodeDcb true 0 8
  | .dcbwTgRamData => encodeDcb true 0 9
  | .dcbwTgRevision => encodeDcb true 0 10
  | .dcbwTgReserved11 => encodeDcb true 0 11
  | .dcbwTgReserved12to15 k => encodeDcb true 0 (0b11#2 ++ k)
  | .dcbwClut01Index => encodeDcb true 1 0
  | .dcbwClut01Data => encodeDcb true 1 1
  | .dcbwClut01Revision => encodeDcb true 1 2
  | .dcbwClut01Reserved3 => encodeDcb true 1 3
  | .dcbwClut01Reserved4to7 k => encodeDcb true 1 (0b01#2 ++ k)
  | .dcbwClut01Reserved8to15 k => encodeDcb true 1 (0b1#1 ++ k)
  | .dcbwClut0Index => encodeDcb true 2 0
  | .dcbwClut0Data => encodeDcb true 2 1
  | .dcbwClut0Revision => encodeDcb true 2 2
  | .dcbwClut0Reserved3 => encodeDcb true 2 3
  | .dcbwClut0Reserved4to7 k => encodeDcb true 2 (0b01#2 ++ k)
  | .dcbwClut0Reserved8to15 k => encodeDcb true 2 (0b1#1 ++ k)
  | .dcbwClut1Index => encodeDcb true 3 0
  | .dcbwClut1Data => encodeDcb true 3 1
  | .dcbwClut1Revision => encodeDcb true 3 2
  | .dcbwClut1Reserved3 => encodeDcb true 3 3
  | .dcbwClut1Reserved4to7 k => encodeDcb true 3 (0b01#2 ++ k)
  | .dcbwClut1Reserved8to15 k => encodeDcb true 3 (0b1#1 ++ k)
  | .dcbwPmr01Config => encodeDcb true 4 0
  | .dcbwPmr01Revision => encodeDcb true 4 1
  | .dcbwPmr01Fifoavail => encodeDcb true 4 2
  | .dcbwPmr01CursorCmap => encodeDcb true 4 3
  | .dcbwPmr01PopupCmap => encodeDcb true 4 4
  | .dcbwPmr01ModeIndex => encodeDcb true 4 5
  | .dcbwPmr01ModeData => encodeDcb true 4 6
  | .dcbwPmr01Reserved7 => encodeDcb true 4 7
  | .dcbwPmr01Reserved8to15 k => encodeDcb true 4 (0b1#1 ++ k)
  | .dcbwPmr0Config => encodeDcb true 5 0
  | .dcbwPmr0Revision => encodeDcb true 5 1
  | .dcbwPmr0Fifoavail => encodeDcb true 5 2
  | .dcbwPmr0CursorCmap => encodeDcb true 5 3
  | .dcbwPmr0PopupCmap => encodeDcb true 5 4
  | .dcbwPmr0ModeIndex => encodeDcb true 5 5
  | .dcbwPmr0ModeData => encodeDcb true 5 6
  | .dcbwPmr0Reserved7 => encodeDcb true 5 7
  | .dcbwPmr0Reserved8to15 k => encodeDcb true 5 (0b1#1 ++ k)
  | .dcbwPmr1Config => encodeDcb true 6 0
  | .dcbwPmr1Revision => encodeDcb true 6 1
  | .dcbwPmr1Fifoavail => encodeDcb true 6 2
  | .dcbwPmr1CursorCmap => encodeDcb true 6 3
  | .dcbwPmr1PopupCmap => encodeDcb true 6 4
  | .dcbwPmr1ModeIndex => encodeDcb true 6 5
  | .dcbwPmr1ModeData => encodeDcb true 6 6
  | .dcbwPmr1Reserved7 => encodeDcb true 6 7
  | .dcbwPmr1Reserved8to15 k => encodeDcb true 6 (0b1#1 ++ k)
  | .dcbwAnalogR k => encodeDcb true 7 k
  | .dcbwLatch0R k => encodeDcb true 8 k
  | .dcbwLatch1R k => encodeDcb true 9 k
  | .dcbwNone10to11 k => .dcb (0b1101#4 ++ k)
  | .dcbwNone12to15 k => .dcb (0b111#3 ++ k)
  | .dcbrTgVtFramePtr => encodeDcb false 0 0
  | .dcbrTgVtLinePtr => encodeDcb false 0 1
  | .dcbrTgDidFramePtr => encodeDcb false 0 2
  | .dcbrTgCursorGlyphPtr => encodeDcb false 0 3
  | .dcbrTgCursorX => encodeDcb false 0 4
  | .dcbrTgCursorY => encodeDcb false 0 5
  | .dcbrTgDisplayCtrl => encodeDcb false 0 6
  | .dcbrTgVintLine => encodeDcb false 0 7
  | .dcbrTgRamAddr => encodeDcb false 0 8
  | .dcbrTgRamData => encodeDcb false 0 9
  | .dcbrTgRevision => encodeDcb false 0 10
  | .dcbrTgReserved11 => encodeDcb false 0 11
  | .dcbrTgReserved12to15 k => encodeDcb false 0 (0b11#2 ++ k)
  | .dcbrClut01Index => encodeDcb false 1 0
  | .dcbrClut01Data => encodeDcb false 1 1
  | .dcbrClut01Revision => encodeDcb false 1 2
  | .dcbrClut01Reserved3 => encodeDcb false 1 3
  | .dcbrClut01Reserved4to7 k => encodeDcb false 1 (0b01#2 ++ k)
  | .dcbrClut01Reserved8to15 k => encodeDcb false 1 (0b1#1 ++ k)
  | .dcbrClut0Index => encodeDcb false 2 0
  | .dcbrClut0Data => encodeDcb false 2 1
  | .dcbrClut0Revision => encodeDcb false 2 2
  | .dcbrClut0Reserved3 => encodeDcb false 2 3
  | .dcbrClut0Reserved4to7 k => encodeDcb false 2 (0b01#2 ++ k)
  | .dcbrClut0Reserved8to15 k => encodeDcb false 2 (0b1#1 ++ k)
  | .dcbrClut1Index => encodeDcb false 3 0
  | .dcbrClut1Data => encodeDcb false 3 1
  | .dcbrClut1Revision => encodeDcb false 3 2
  | .dcbrClut1Reserved3 => encodeDcb false 3 3
  | .dcbrClut1Reserved4to7 k => encodeDcb false 3 (0b01#2 ++ k)
  | .dcbrClut1Reserved8to15 k => encodeDcb false 3 (0b1#1 ++ k)
  | .dcbrPmr01Config => encodeDcb false 4 0
  | .dcbrPmr01Revision => encodeDcb false 4 1
  | .dcbrPmr01Fifoavail => encodeDcb false 4 2
  | .dcbrPmr01CursorCmap => encodeDcb false 4 3
  | .dcbrPmr01PopupCmap => encodeDcb false 4 4
  | .dcbrPmr01ModeIndex => encodeDcb false 4 5
  | .dcbrPmr01ModeData => encodeDcb false 4 6
  | .dcbrPmr01Reserved7 => encodeDcb false 4 7
  | .dcbrPmr01Reserved8to15 k => encodeDcb false 4 (0b1#1 ++ k)
  | .dcbrPmr0Config => encodeDcb false 5 0
  | .dcbrPmr0Revision => encodeDcb false 5 1
  | .dcbrPmr0Fifoavail => encodeDcb false 5 2
  | .dcbrPmr0CursorCmap => encodeDcb false 5 3
  | .dcbrPmr0PopupCmap => encodeDcb false 5 4
  | .dcbrPmr0ModeIndex => encodeDcb false 5 5
  | .dcbrPmr0ModeData => encodeDcb false 5 6
  | .dcbrPmr0Reserved7 => encodeDcb false 5 7
  | .dcbrPmr0Reserved8to15 k => encodeDcb false 5 (0b1#1 ++ k)
  | .dcbrPmr1Config => encodeDcb false 6 0
  | .dcbrPmr1Revision => encodeDcb false 6 1
  | .dcbrPmr1Fifoavail => encodeDcb false 6 2
  | .dcbrPmr1CursorCmap => encodeDcb false 6 3
  | .dcbrPmr1PopupCmap => encodeDcb false 6 4
  | .dcbrPmr1ModeIndex => encodeDcb false 6 5
  | .dcbrPmr1ModeData => encodeDcb false 6 6
  | .dcbrPmr1Reserved7 => encodeDcb false 6 7
  | .dcbrPmr1Reserved8to15 k => encodeDcb false 6 (0b1#1 ++ k)
  | .dcbrAnalogR k => encodeDcb false 7 k
  | .dcbrLatch0R k => encodeDcb false 8 k
  | .dcbrLatch1R k => encodeDcb false 9 k
  | .dcbrNone10to11 k => .dcb (0b0101#4 ++ k)
  | .dcbrNone12to15 k => .dcb (0b011#3 ++ k)
  | .readoutX0 => .query .readoutX0
  | .readoutY0 => .query .readoutY0
  | .readoutX1 => .query .readoutX1
  | .readoutY1 => .query .readoutY1
  | .beginDidLine y => .query (.beginDidLine y)
  | .nextDidLineEntry => .query .nextDidLineEntry
  | .didFor y x => .query (.didFor y x)
  | .getCursorPixel x y => .query (.getCursorPixel x y)
  | .displayPixel x y => .query (.displayPixel x y)
  | .paletteBase c => .query (.paletteBase c)
  | .is8bpp => .query .is8bpp
  | .modeEntry j => .query (.modeEntry j)
  | .cursorCmap => .query .cursorCmap
  | .popupCmap => .query .popupCmap
  | .dcbTimeout => .timeout
  | .hardReset => .hardReset
  | .softReset => .softReset

/-! ## The opcode table's words (log 10) -/

/-- The request a word of spec/opcode_table.json stands for, `nbits` being the bits the table gives the row. A word of at
most 8 bits is a command key (R90), one of 9 to 13 bits a DCB key (R91), one of 14 or 15 bits a host access key (R81).
With 16 bits the host access rows and the DCB rows share the number: a word that is a host access row of the table is read as
one, else a word below 512 as a DCB key, else as a host access. The words above the table's bits are absent: value 0 and no mask,
which is the all-ones mask (R111). -/
def tableRequest (nbits w : Nat) : Request :=
  if nbits ≤ 8 then .command (BitVec.ofNat 5 w)
  else if nbits ≤ 13 then .dcb (BitVec.ofNat 9 w)
  else
    let key := BitVec.ofNat 14 w
    if nbits ≤ 15 || (hostRegAt (key.getLsbD 12) (key.extractLsb' 0 11).toNat).isSome || decide (512 ≤ w) then .host key 0 none
    else .dcb (BitVec.ofNat 9 w)

/-- The instruction the decoder reads from a word of the opcode table, none where it refuses. -/
def decodeTableWord (nbits w : Nat) : Option Instr :=
  match decode (tableRequest nbits w) with
  | .ok i => some i
  | .error _ => none

end Sys2Proof
end

