-- ==== Sys2Proof/Config.lean ====
section
/-! DEFINITION. What an implementation fixes (00_scope.md R9) and the values the spec leaves free (R16).
Opaque constants have no body: nothing can be proved of their values. -/

namespace Sys2Proof

/-- The implementation parameters of 00_scope.md R9. They are part of the machine's state as plain data that no step
changes, so that statements hold for every choice of them (log 8). -/
structure Params where
  /-- FB_W, plane width in pixels (R9, D55). -/
  fbW : Nat
  /-- FB_H, plane height in pixels (R9, D55). -/
  fbH : Nat
  /-- CLUT_ENTRIES, at least 8192 (R9, R271). -/
  clutEntries : Nat
  /-- TRAM_WORDS, between 1 and 65536 (R9, R293). -/
  tramWords : Nat
  /-- PMR_REVISION, OPEN (R9, R254). -/
  pmrRevision : W32
  /-- CLUT_REVISION, OPEN (R9, R277). -/
  clutRevision : W32
  /-- TG_REVISION, OPEN; only bits 15:0 are ever read (R9, R292). -/
  tgRevision : W32
  /-- FIFO_DEPTH, OPEN: what the PMR's FIFO-available counter reports (R9, R254). -/
  fifoDepth : W32
deriving DecidableEq, Repr

/-- The bounds the spec puts on the parameters: R271 for CLUT_ENTRIES, R293 for TRAM_WORDS. -/
def Params.wf (c : Params) : Bool :=
  decide (8192 ≤ c.clutEntries) && decide (1 ≤ c.tramWords) && decide (c.tramWords ≤ 65536)

/-- The OPEN parameter PMR_REVISION (R9): no value in the spec (log 8). -/
opaque Config.pmrRevision : W32

/-- The OPEN parameter CLUT_REVISION (R9): no value in the spec (log 8). -/
opaque Config.clutRevision : W32

/-- The OPEN parameter TG_REVISION (R9): no value in the spec (log 8). -/
opaque Config.tgRevision : W32

/-- The OPEN parameter FIFO_DEPTH (R9): no value in the spec (log 8). -/
opaque Config.fifoDepth : W32

/-- The default parameters of R9, with the OPEN ones left opaque. -/
def Params.default : Params :=
  { fbW := 1280, fbH := 1024, clutEntries := 8192, tramWords := 32768,
    pmrRevision := Config.pmrRevision, clutRevision := Config.clutRevision,
    tgRevision := Config.tgRevision, fifoDepth := Config.fifoDepth }

/-- The free draw that reset number `n` left in the cell at index `a` of plane `p` (R16, R381; log 6). -/
opaque Config.planeDraw : (n p a : Nat) → W32

/-- The free draw that reset number `n` left in TRAM word `a` (R16, R47, R381; log 6). -/
opaque Config.tramDraw : (n a : Nat) → W16

/-- The free draw that hard reset number `n` left in entry `i` of CLUT instance `c` (R16, R44, R381; log 6). -/
opaque Config.clutDraw : (n c i : Nat) → W24

/-- The free draw that hard reset number `n` left in entry `j` of the mode table of PMR instance `i` (R16, R43, R381; log 6). -/
opaque Config.modeDraw : (n i j : Nat) → W8

/-- The line pointer of the `n`-th `begin_did_line` beyond scanline 65535, where the spec states none (47_timing_cursor.md R305,
R306; log 23). -/
opaque Config.linePointer : (n : Nat) → W16

end Sys2Proof
end

