-- ==== Sys2Proof/Machine/State.lean ====
section
/-! DEFINITION. The state of the core (10_state.md), its faults and refusals, and the state after reset (70_reset_and_hazards.md
R383). Plain data throughout. -/

namespace Sys2Proof.Machine

/-- A memory of `w`-bit cells: the cells written since the reset that drew the others, as (address, value) pairs with the
addresses strictly rising. An unlisted address holds the free draw of its reset (R16, R381; logs 6 and 7). -/
abbrev Memory (w : Nat) := List (Nat × BitVec w)

/-- The 32-bit CE registers with storage (10_state.md section 2). -/
structure CeRegs where
  /-- DRAWMODE0 (R23). -/
  drawmode0 : W32
  /-- DRAWMODE1 (R24). -/
  drawmode1 : W32
  /-- WRMASK (R25). -/
  wrmask : W32
  /-- COLORI (R26). -/
  colori : W32
  /-- XSTART (R27). -/
  xstart : W32
  /-- YSTART (R27). -/
  ystart : W32
  /-- XEND (R27). -/
  xend : W32
  /-- YEND (R27). -/
  yend : W32
  /-- XYMOVE (R29). -/
  xymove : W32
  /-- CLIPMIN (R30). -/
  clipmin : W32
  /-- CLIPMAX (R30). -/
  clipmax : W32
  /-- RED (R31). -/
  red : W32
  /-- GREEN (R31). -/
  green : W32
  /-- BLUE (R31). -/
  blue : W32
  /-- ALPHA (R31). -/
  alpha : W32
  /-- ZACC (R31). -/
  zacc : W32
  /-- SLOPE_R (R32). -/
  slopeR : W32
  /-- SLOPE_G (R32). -/
  slopeG : W32
  /-- SLOPE_B (R32). -/
  slopeB : W32
  /-- SLOPE_A (R32). -/
  slopeA : W32
  /-- SLOPE_Z (R32). -/
  slopeZ : W32
  /-- STIPX0 (R33). -/
  stipx0 : W32
  /-- STIPX1 (R33). -/
  stipx1 : W32
  /-- STIPX2 (R33). -/
  stipx2 : W32
  /-- STIPX3 (R33). -/
  stipx3 : W32
  /-- STIPX4 (R33). -/
  stipx4 : W32
  /-- STIPY0 (R33). -/
  stipy0 : W32
  /-- STIPY1 (R33). -/
  stipy1 : W32
  /-- STIPY2 (R33). -/
  stipy2 : W32
  /-- STIPY3 (R33). -/
  stipy3 : W32
  /-- STIPY4 (R33). -/
  stipy4 : W32
  /-- BRES_ERR (R34). -/
  bresErr : W32
  /-- BRES_INC1 (R34). -/
  bresInc1 : W32
  /-- BRES_INC2 (R34). -/
  bresInc2 : W32
  /-- BRES_COUNT (R34). -/
  bresCount : W32
  /-- BRES_OCTANT (R34). -/
  bresOctant : W32
  /-- CURXY (R35). -/
  curxy : W32
  /-- DCBMODE (R37). -/
  dcbmode : W32
  /-- DCBDATA0 (R37). -/
  dcbdata0 : W32
  /-- DCBDATA1 (R37). -/
  dcbdata1 : W32
deriving DecidableEq, Repr

/-- The CE registers after reset (R383). -/
def CeRegs.reset : CeRegs :=
  { drawmode0 := 0, drawmode1 := 0x00000260, wrmask := 0xFFFFFFFF, colori := 0, xstart := 0, ystart := 0, xend := 0,
    yend := 0, xymove := 0, clipmin := 0, clipmax := 0x7FFF7FFF, red := 0, green := 0, blue := 0, alpha := 0,
    zacc := 0, slopeR := 0, slopeG := 0, slopeB := 0, slopeA := 0, slopeZ := 0, stipx0 := 0, stipx1 := 0,
    stipx2 := 0, stipx3 := 0, stipx4 := 0, stipy0 := 0, stipy1 := 0, stipy2 := 0, stipy3 := 0, stipy4 := 0,
    bresErr := 0, bresInc1 := 0, bresInc2 := 0, bresCount := 0, bresOctant := 0, curxy := 0, dcbmode := 0,
    dcbdata0 := 0, dcbdata1 := 0 }

/-- The host-transfer state XF (R39). -/
structure Xfer where
  active : Bool
  dir : XferDir
  x0 : Int
  y0 : Int
  x1 : Int
  y1 : Int
  sx : Sign
  sy : Sign
  hx : Int
  hy : Int
deriving DecidableEq, Repr

/-- XF after reset (R39). -/
def Xfer.reset : Xfer :=
  { active := false, dir := .hostToFrame, x0 := 0, y0 := 0, x1 := 0, y1 := 0, sx := .pos, sy := .pos, hx := 0, hy := 0 }

/-- The four framebuffer planes (R41); cell (x, y) has address y * FB_W + x (R62). -/
structure Planes where
  primary : Memory 32
  overlay : Memory 32
  popup : Memory 32
  cid : Memory 32
deriving DecidableEq, Repr

/-- No cell written since the reset (R381, R382). -/
def Planes.reset : Planes := { primary := [], overlay := [], popup := [], cid := [] }

/-- One PMR instance (R42, R43). REVISION and FIFOAVAIL are the constants of Params. -/
structure Pmr where
  /-- CONFIG, 8 bits, bits 7:1 read 0. -/
  config : W8
  cursorCmap : BitVec 5
  popupCmap : BitVec 5
  modeIndex : BitVec 5
  /-- The mode table's entries written since the last hard reset. -/
  mode : Memory 8
deriving DecidableEq, Repr

/-- A PMR after a hard reset (R383). -/
def Pmr.reset : Pmr := { config := 0, cursorCmap := 0, popupCmap := 0, modeIndex := 0, mode := [] }

/-- One CLUT instance (R44). -/
structure Clut where
  /-- INDEX, an integer in 0..CLUT_ENTRIES-1. -/
  index : Nat
  /-- The entries written since the last hard reset. -/
  table : Memory 24
deriving DecidableEq, Repr

/-- A CLUT after a hard reset (R383). -/
def Clut.reset : Clut := { index := 0, table := [] }

/-- The decoded active window, four integers (R48). -/
structure Window where
  x0 : Int
  y0 : Int
  x1 : Int
  y1 : Int
deriving DecidableEq, Repr

/-- The empty window (R48, R299). -/
def Window.empty : Window := { x0 := 0, y0 := 0, x1 := -1, y1 := -1 }

/-- The TG's registers and hidden state (R45 to R48). RAM_DATA is a window onto TRAM, REVISION a constant of Params. -/
structure Tg where
  vtFramePtr : W16
  vtLinePtr : W16
  didFramePtr : W16
  cursorGlyphPtr : W16
  cursorX : W16
  cursorY : W16
  displayCtrl : W16
  vintLine : W16
  ramAddr : W16
  /-- TG.dirty (R48): the source's Dirty state. -/
  dirty : Bool
  /-- TG.win (R48). -/
  win : Window
  /-- TG.lc (R48): the line cursor, a TRAM word address. -/
  lc : Nat
  /-- TG.lc_end (R48). -/
  lcEnd : Bool
deriving DecidableEq, Repr

/-- The TG after reset (R383). -/
def Tg.reset : Tg :=
  { vtFramePtr := 0, vtLinePtr := 0, didFramePtr := 0, cursorGlyphPtr := 0, cursorX := 0, cursorY := 0, displayCtrl := 0,
    vintLine := 0, ramAddr := 0, dirty := true, win := Window.empty, lc := 0, lcEnd := true }

/-- A placeholder register file R[0..15] (R49). -/
abbrev AuxRegs := Vector W32 16

/-- A placeholder register file after reset (R49). -/
def AuxRegs.reset : AuxRegs := Vector.replicate 16 0

/-- The whole state of the core. -/
structure State where
  /-- The implementation parameters (R9); no step changes them (log 8). The model's own field. -/
  par : Params
  /-- The CE registers. -/
  ce : CeRegs
  /-- HOSTDATA (R38). -/
  hostdata : W64
  /-- STATUS.VINT (R36). -/
  vint : Bool
  /-- STATUS.DCBTMO (R36). -/
  dcbtmo : Bool
  /-- XF (R39); STATUS.HOSTACT reads `xf.active`. -/
  xf : Xfer
  /-- DCB.pending (R40); STATUS.DCBPEND reads it. -/
  dcbPending : Bool
  /-- The planes (R41). -/
  planes : Planes
  /-- PMR[0] (R42). -/
  pmr0 : Pmr
  /-- PMR[1] (R42). -/
  pmr1 : Pmr
  /-- CLUT[0] (R44). -/
  clut0 : Clut
  /-- CLUT[1] (R44). -/
  clut1 : Clut
  /-- The TG (R45 to R48). -/
  tg : Tg
  /-- TRAM (R47). -/
  tram : Memory 16
  /-- ANALOG (R49). -/
  analog : AuxRegs
  /-- LATCH0 (R49). -/
  latch0 : AuxRegs
  /-- LATCH1 (R49). -/
  latch1 : AuxRegs
  /-- How many resets have drawn the planes and TRAM. The model's own field (log 6). -/
  draws : Nat
  /-- How many hard resets have drawn the CLUT tables and mode tables. The model's own field (log 6). -/
  tableDraws : Nat
  /-- How many line pointers `begin_did_line` has drawn beyond scanline 65535. The model's own field (log 23). -/
  lineDraws : Nat
  /-- The schedule: the agents' requests still to come. The model's own field (log 1). -/
  inbox : List Request
  /-- What the latest step gave out (R14, R51). The model's own field (log 5). -/
  out : List Output
deriving DecidableEq, Repr

/-- The faults of a step. There are none: "no host access, command, query, timeout event or reset faults" (60_exceptions.md
R351), so the type is empty. Nothing raises one (safe). -/
inductive Fault
deriving DecidableEq, Repr

/-- Why a step answers with no next state. -/
inductive Refusal where
  /-- Raised by exec's arm of an instruction that has no meaning yet; no arm is left. Safe. -/
  | notModelled (mnemonic : String)
  /-- Raised by `palette_base(c)` for c other than 0 and 1, the instances R271 gives (log 11). Safe. -/
  | noSuchClut (c : Nat)
deriving DecidableEq, Repr

/-- The machine right after reset: every field at the value of R383, which is a hard reset (R388: device start is a hard
reset), with the default parameters (R9) and no request waiting. -/
def State.reset : State :=
  { par := Params.default, ce := CeRegs.reset, hostdata := 0, vint := false, dcbtmo := false, xf := Xfer.reset,
    dcbPending := false, planes := Planes.reset, pmr0 := Pmr.reset, pmr1 := Pmr.reset, clut0 := Clut.reset,
    clut1 := Clut.reset, tg := Tg.reset, tram := [], analog := AuxRegs.reset, latch0 := AuxRegs.reset,
    latch1 := AuxRegs.reset, draws := 0, tableDraws := 0, lineDraws := 0, inbox := [], out := [] }

end Sys2Proof.Machine
end

