-- ==== Sys2Proof/Machine/Ops.lean ====
section
/-! DEFINITION. The named operations over memories, registers, planes, sub-device tables and outputs, which the meanings are
written with. Taking an exception is absent here because the core takes none: no trap entry, no return (60_exceptions.md R351,
R357, R358); its abnormal conditions are status bits (Flags.lean) and the values these operations give. -/

namespace Sys2Proof.Machine

/-! ## Memories (logs 6 and 7) -/

/-- The value a location was last written with, none where no write has reached it since the reset that drew it. -/
def Memory.get? {w : Nat} (m : Memory w) (a : Nat) : Option (BitVec w) :=
  match m with
  | [] => none
  | (k, v) :: rest => if k = a then some v else Memory.get? rest a

/-- Write one location, keeping the addresses strictly rising. -/
def Memory.set {w : Nat} (m : Memory w) (a : Nat) (v : BitVec w) : Memory w :=
  match m with
  | [] => [(a, v)]
  | (k, x) :: rest =>
    if a < k then (a, v) :: (k, x) :: rest
    else if a = k then (a, v) :: rest
    else (k, x) :: Memory.set rest a v

/-- The addresses rise strictly, starting at `lo` or above. -/
def Memory.risingFrom {w : Nat} (lo : Nat) (m : Memory w) : Bool :=
  match m with
  | [] => true
  | (k, _) :: rest => decide (lo ≤ k) && Memory.risingFrom (k + 1) rest

/-- Every listed address is below `n`. -/
def Memory.below {w : Nat} (n : Nat) (m : Memory w) : Bool := m.all (fun e => decide (e.1 < n))

/-- The canonical form of a memory of `n` locations: addresses strictly rising, none outside the memory. -/
def Memory.wf {w : Nat} (n : Nat) (m : Memory w) : Bool := Memory.risingFrom 0 m && Memory.below n m

/-! ## Updates of one part of the state -/

/-- Read a stored CE register by name. -/
def CeRegs.get (c : CeRegs) (r : Reg) : W32 :=
  match r with
  | .drawmode0 => c.drawmode0
  | .drawmode1 => c.drawmode1
  | .wrmask => c.wrmask
  | .colori => c.colori
  | .xstart => c.xstart
  | .ystart => c.ystart
  | .xend => c.xend
  | .yend => c.yend
  | .xymove => c.xymove
  | .clipmin => c.clipmin
  | .clipmax => c.clipmax
  | .red => c.red
  | .green => c.green
  | .blue => c.blue
  | .alpha => c.alpha
  | .zacc => c.zacc
  | .slopeR => c.slopeR
  | .slopeG => c.slopeG
  | .slopeB => c.slopeB
  | .slopeA => c.slopeA
  | .slopeZ => c.slopeZ
  | .stipx0 => c.stipx0
  | .stipx1 => c.stipx1
  | .stipx2 => c.stipx2
  | .stipx3 => c.stipx3
  | .stipx4 => c.stipx4
  | .stipy0 => c.stipy0
  | .stipy1 => c.stipy1
  | .stipy2 => c.stipy2
  | .stipy3 => c.stipy3
  | .stipy4 => c.stipy4
  | .bresErr => c.bresErr
  | .bresInc1 => c.bresInc1
  | .bresInc2 => c.bresInc2
  | .bresCount => c.bresCount
  | .bresOctant => c.bresOctant
  | .curxy => c.curxy
  | .dcbmode => c.dcbmode
  | .dcbdata0 => c.dcbdata0
  | .dcbdata1 => c.dcbdata1

/-- Write a stored CE register by name. -/
def CeRegs.set (c : CeRegs) (r : Reg) (v : W32) : CeRegs :=
  match r with
  | .drawmode0 => { c with drawmode0 := v }
  | .drawmode1 => { c with drawmode1 := v }
  | .wrmask => { c with wrmask := v }
  | .colori => { c with colori := v }
  | .xstart => { c with xstart := v }
  | .ystart => { c with ystart := v }
  | .xend => { c with xend := v }
  | .yend => { c with yend := v }
  | .xymove => { c with xymove := v }
  | .clipmin => { c with clipmin := v }
  | .clipmax => { c with clipmax := v }
  | .red => { c with red := v }
  | .green => { c with green := v }
  | .blue => { c with blue := v }
  | .alpha => { c with alpha := v }
  | .zacc => { c with zacc := v }
  | .slopeR => { c with slopeR := v }
  | .slopeG => { c with slopeG := v }
  | .slopeB => { c with slopeB := v }
  | .slopeA => { c with slopeA := v }
  | .slopeZ => { c with slopeZ := v }
  | .stipx0 => { c with stipx0 := v }
  | .stipx1 => { c with stipx1 := v }
  | .stipx2 => { c with stipx2 := v }
  | .stipx3 => { c with stipx3 := v }
  | .stipx4 => { c with stipx4 := v }
  | .stipy0 => { c with stipy0 := v }
  | .stipy1 => { c with stipy1 := v }
  | .stipy2 => { c with stipy2 := v }
  | .stipy3 => { c with stipy3 := v }
  | .stipy4 => { c with stipy4 := v }
  | .bresErr => { c with bresErr := v }
  | .bresInc1 => { c with bresInc1 := v }
  | .bresInc2 => { c with bresInc2 := v }
  | .bresCount => { c with bresCount := v }
  | .bresOctant => { c with bresOctant := v }
  | .curxy => { c with curxy := v }
  | .dcbmode => { c with dcbmode := v }
  | .dcbdata0 => { c with dcbdata0 := v }
  | .dcbdata1 => { c with dcbdata1 := v }

/-- `REG <- v` for a stored CE register (00_scope.md R12). -/
def State.setReg (s : State) (r : Reg) (v : W32) : State := { s with ce := s.ce.set r v }

/-- Store HOSTDATA (R38). -/
def State.setHostdata (s : State) (v : W64) : State := { s with hostdata := v }

/-- Set or clear STATUS.VINT (R36). -/
def State.setVint (s : State) (b : Bool) : State := { s with vint := b }

/-- Set or clear STATUS.DCBTMO (R36). -/
def State.setDcbtmo (s : State) (b : Bool) : State := { s with dcbtmo := b }

/-- Replace XF (R39). -/
def State.setXf (s : State) (x : Xfer) : State := { s with xf := x }

/-- Set or clear DCB.pending (R40). -/
def State.setPending (s : State) (b : Bool) : State := { s with dcbPending := b }

/-- The cells of one plane (R41). -/
def Planes.get (q : Planes) (p : PlaneId) : Memory 32 :=
  match p with
  | .primary => q.primary
  | .overlay => q.overlay
  | .popup => q.popup
  | .cid => q.cid

/-- Replace the cells of one plane (R41). -/
def Planes.set (q : Planes) (p : PlaneId) (m : Memory 32) : Planes :=
  match p with
  | .primary => { q with primary := m }
  | .overlay => { q with overlay := m }
  | .popup => { q with popup := m }
  | .cid => { q with cid := m }

/-- Replace the cells of one plane. -/
def State.setPlane (s : State) (p : PlaneId) (m : Memory 32) : State := { s with planes := s.planes.set p m }

/-- PMR[i] (R42). -/
def State.pmr (s : State) (i : Inst) : Pmr :=
  match i with
  | .zero => s.pmr0
  | .one => s.pmr1

/-- Replace PMR[i]. -/
def State.setPmr (s : State) (i : Inst) (p : Pmr) : State :=
  match i with
  | .zero => { s with pmr0 := p }
  | .one => { s with pmr1 := p }

/-- CLUT[c] (R44). -/
def State.clut (s : State) (c : Inst) : Clut :=
  match c with
  | .zero => s.clut0
  | .one => s.clut1

/-- Replace CLUT[c]. -/
def State.setClut (s : State) (c : Inst) (t : Clut) : State :=
  match c with
  | .zero => { s with clut0 := t }
  | .one => { s with clut1 := t }

/-- Replace the TG's registers and hidden state. -/
def State.setTg (s : State) (t : Tg) : State := { s with tg := t }

/-- Replace the count of drawn line pointers (log 23). -/
def State.setLineDraws (s : State) (n : Nat) : State := { s with lineDraws := n }

/-- Replace TRAM. -/
def State.setTram (s : State) (m : Memory 16) : State := { s with tram := m }

/-- A placeholder register file (R49). -/
def State.aux (s : State) (d : AuxId) : AuxRegs :=
  match d with
  | .analog => s.analog
  | .latch0 => s.latch0
  | .latch1 => s.latch1

/-- Replace a placeholder register file. -/
def State.setAux (s : State) (d : AuxId) (f : AuxRegs) : State :=
  match d with
  | .analog => { s with analog := f }
  | .latch0 => { s with latch0 := f }
  | .latch1 => { s with latch1 := f }

/-- Give out a read value, a query result or a signal edge (R14): appended to what the step has given out so far. -/
def State.emit (s : State) (e : Output) : State := { s with out := s.out ++ [e] }

/-! ## Planes (20_memory.md R62, R63) -/

/-- The number of a plane, 0 to 3 (R41). -/
def PlaneId.num (p : PlaneId) : Nat :=
  match p with
  | .primary => 0
  | .overlay => 1
  | .popup => 2
  | .cid => 3

/-- The planes in ascending order (R181). -/
def planeOrder : List PlaneId := [.primary, .overlay, .popup, .cid]

/-- Whether a pixel has a cell: the bounds test of R63 and R183. -/
def boundsPass (s : State) (x y : Int) : Bool :=
  decide (0 ≤ x) && decide (x < s.par.fbW) && decide (0 ≤ y) && decide (y < s.par.fbH)

/-- The cell address of pixel (x, y): y * FB_W + x (R62). -/
def planeAddr (s : State) (x y : Int) : Nat := y.toNat * s.par.fbW + x.toNat

/-- What the cell at address `a` of plane `p` holds: the last value written, or the free draw of its reset (R75, R381). -/
def cellAt (s : State) (p : PlaneId) (a : Nat) : W32 :=
  ((s.planes.get p).get? a).getD (Config.planeDraw s.draws p.num a)

/-- PlaneRead(p, x, y): 0 outside the plane (R13, R63). -/
def planeRead (s : State) (p : PlaneId) (x y : Int) : W32 :=
  if boundsPass s x y then cellAt s p (planeAddr s x y) else 0

/-- PlaneWrite(p, x, y, v): nothing outside the plane (R13, R63). -/
def planeWrite (s : State) (p : PlaneId) (x y : Int) (v : W32) : State :=
  if boundsPass s x y then s.setPlane p ((s.planes.get p).set (planeAddr s x y) v) else s

/-! ## Sub-device tables (20_memory.md R80) -/

/-- The number of an instance, 0 or 1. -/
def Inst.num (i : Inst) : Nat :=
  match i with
  | .zero => 0
  | .one => 1

/-- Entry `i` of CLUT[c].T, the index taken mod CLUT_ENTRIES (R80, R276, R282). -/
def clutEntry (s : State) (c : Inst) (i : Nat) : W24 :=
  let a := i % s.par.clutEntries
  ((s.clut c).table.get? a).getD (Config.clutDraw s.tableDraws c.num a)

/-- Entry `j` of PMR[i].MODE, the index taken mod 32 (R80, R256). -/
def modeTableEntry (s : State) (i : Inst) (j : Nat) : W8 :=
  let a := j % 32
  ((s.pmr i).mode.get? a).getD (Config.modeDraw s.tableDraws i.num a)

/-- TRAM[a], the address taken mod TRAM_WORDS (R80, R293). -/
def tramRead (s : State) (a : Nat) : W16 :=
  let i := a % s.par.tramWords
  (s.tram.get? i).getD (Config.tramDraw s.draws i)

/-- Write TRAM[a], the address taken mod TRAM_WORDS (R80, R294). -/
def tramWrite (s : State) (a : Nat) (v : W16) : State := s.setTram (s.tram.set (a % s.par.tramWords) v)

/-- The CLUT instance that display composition and the cursor resolve through: DISPLAY_CLUT = 0 (00_scope.md R9, D44). -/
def displayClut : Inst := .zero

/-! ## Host transfer (41_command_engine.md R170, R173) -/

/-- `end_transfer()`: XF.active <- false, no pixel moves (R173). With no transfer active nothing changes. -/
def endTransfer (s : State) : State := s.setXf { s.xf with active := false }

/-! ## Host access protocol (40_register_access.md) -/

/-- `merge(old, v, m)`: the lanes of the mask take the new value (R113). -/
def merge {w : Nat} (old v m : BitVec w) : BitVec w := (old &&& ~~~m) ||| (v &&& m)

/-- A write whose mask is 0 has no effect at all (R131). -/
def whenMasked {w : Nat} (m : BitVec w) (f : State → State) (s : State) : State := if m = 0 then s else f s

/-- A width-4 read answers the value (R112). -/
def reply32 (v : W32) (s : State) : State := s.emit (.data32 v)

/-- A width-8 read answers the value (R112, R128). -/
def reply64 (v : W64) (s : State) : State := s.emit (.data64 v)

/-- What a request that is no instruction does: an invalid read answers 0 of its width and an invalid write changes nothing
(R115, log 12); a `palette_base` of no instance is refused by name (log 11). -/
def rejected (e : DecodeError) (s : State) : Host.Outcome State Fault Refusal :=
  match e with
  | .invalidRead false => .next (reply32 0 s)
  | .invalidRead true => .next (reply64 0 s)
  | .invalidWrite => .next s
  | .noSuchClut c => .refused (.noSuchClut c)

/-! ## The step's bookkeeping (logs 1 and 5) -/

/-- Take a request off the schedule: the rest waits, and what the step before gave out is gone. -/
def State.taking (s : State) (rest : List Request) : State := { s with inbox := rest, out := [] }

/-- No request is waiting: what the step before gave out is gone. -/
def State.idle (s : State) : State := { s with out := [] }

/-! ## Reset (70_reset_and_hazards.md) -/

/-- `hard_reset` (R381): every register and hidden state at its reset value (R383), every plane cell, CLUT entry, mode-table
entry and TRAM word drawn anew (log 6). The parameters, the schedule and the step's output are not the reset's (log 15). -/
def hardReset (s : State) : State :=
  { State.reset with
    par := s.par, draws := s.draws + 1, tableDraws := s.tableDraws + 1, lineDraws := s.lineDraws,
    inbox := s.inbox, out := s.out }

/-- `soft_reset` (R382): as a hard reset, but the CLUT tables and the PMR mode tables keep their contents. -/
def softReset (s : State) : State :=
  { State.reset with
    par := s.par, draws := s.draws + 1, tableDraws := s.tableDraws, lineDraws := s.lineDraws, inbox := s.inbox,
    out := s.out,
    pmr0 := { Pmr.reset with mode := s.pmr0.mode }, pmr1 := { Pmr.reset with mode := s.pmr1.mode },
    clut0 := { Clut.reset with table := s.clut0.table }, clut1 := { Clut.reset with table := s.clut1.table } }

end Sys2Proof.Machine
end

