-- ==== Sys2Proof/Machine/Operands.lean ====
section
/-! DEFINITION. Operands: the fields of DRAWMODE0 and DRAWMODE1 (10_state.md R23, R24), the coordinate and packed formats
(30_encoding.md R87, R88), and the bit helpers of 00_scope.md R10, R11. -/

namespace Sys2Proof.Machine

/-- A depth code (44_pixel_format.md R231): 0 to 3 name the 4-, 8-, 12- and 24-bit encodings. -/
inductive Depth where
  | d4 | d8 | d12 | d24
deriving DecidableEq, Repr

/-- `ones(n)` as a 32-bit value (R10), for n up to 32. -/
def ones (n : Nat) : W32 := BitVec.ofNat 32 (2 ^ n - 1)

/-- The high half of a register as `sext_16(v[31:16])` (R11, R87). -/
def hiInt (v : W32) : Int := (v.extractLsb' 16 16).toInt

/-- The low half of a register as `sext_16(v[15:0])` (R11, R87). -/
def loInt (v : W32) : Int := (v.extractLsb' 0 16).toInt

/-- `u32(x)[15:0] ‖ u32(y)[15:0]`, the form CURXY takes (R35, R155). -/
def packXY (x y : Int) : W32 := BitVec.ofInt 16 x ++ BitVec.ofInt 16 y

/-- `s32(v) div 65536`: the integer part of a Q16.16 value, by floor (R11, R31, R87). -/
def q16Int (v : W32) : Int := v.toInt / 65536

/-- -1 or +1. -/
def Sign.toInt (d : Sign) : Int :=
  match d with
  | .neg => -1
  | .pos => 1

/-- +1 when `b ≥ a`, else -1: the step from `a` toward `b` (R159, R168). -/
def signToward (a b : Int) : Sign := if b ≥ a then .pos else .neg

/-! ## Coordinates (30_encoding.md R88) -/

/-- X0 = sext_16(XSTART[31:16]). -/
def State.x0 (s : State) : Int := hiInt s.ce.xstart

/-- Y0 = sext_16(YSTART[31:16]). -/
def State.y0 (s : State) : Int := hiInt s.ce.ystart

/-- X1 = sext_16(XEND[31:16]). -/
def State.x1 (s : State) : Int := hiInt s.ce.xend

/-- Y1 = sext_16(YEND[31:16]). -/
def State.y1 (s : State) : Int := hiInt s.ce.yend

/-- MOVEX = sext_16(XYMOVE[31:16]) (R29). -/
def State.moveX (s : State) : Int := hiInt s.ce.xymove

/-- MOVEY = sext_16(XYMOVE[15:0]) (R29). -/
def State.moveY (s : State) : Int := loInt s.ce.xymove

/-- XYSTARTI, the view XSTART[31:16] ‖ YSTART[31:16] (R28). -/
def State.xystarti (s : State) : W32 := s.ce.xstart.extractLsb' 16 16 ++ s.ce.ystart.extractLsb' 16 16

/-- XYENDI, the view XEND[31:16] ‖ YEND[31:16] (R28). -/
def State.xyendi (s : State) : W32 := s.ce.xend.extractLsb' 16 16 ++ s.ce.yend.extractLsb' 16 16

/-! ## DRAWMODE0 (R23) -/

/-- DRAWMODE0 bits 4:0: CMD, COPY, DIR (R90). -/
def State.commandKey (s : State) : BitVec 5 := s.ce.drawmode0.extractLsb' 0 5

/-- DRAWMODE0.CMD, bits 2:0. -/
def State.cmd (s : State) : Nat := (s.ce.drawmode0.extractLsb' 0 3).toNat

/-- DRAWMODE0.COPY, bit 3. -/
def State.copyBit (s : State) : Bool := s.ce.drawmode0.getLsbD 3

/-- DRAWMODE0.DIR, bit 4. -/
def State.dirBit (s : State) : Bool := s.ce.drawmode0.getLsbD 4

/-- DRAWMODE0.PLANEMASK bit p, bit 5 + p of DRAWMODE0 (R181, R185). -/
def State.planeEnabled (s : State) (p : PlaneId) : Bool := s.ce.drawmode0.getLsbD (5 + p.num)

/-- DRAWMODE0.COLORSRC, bits 10:9. -/
def State.colorsrc (s : State) : Nat := (s.ce.drawmode0.extractLsb' 9 2).toNat

/-- DRAWMODE0.ENDPT, bit 11. -/
def State.endpt (s : State) : Bool := s.ce.drawmode0.getLsbD 11

/-- DRAWMODE0.STIPEN, bit 12. -/
def State.stipen (s : State) : Bool := s.ce.drawmode0.getLsbD 12

/-- DRAWMODE0.PATSEL, bits 15:13. -/
def State.patsel (s : State) : Nat := (s.ce.drawmode0.extractLsb' 13 3).toNat

/-- DRAWMODE0.BLEND, bit 16. -/
def State.blendBit (s : State) : Bool := s.ce.drawmode0.getLsbD 16

/-! ## DRAWMODE1 (R24) -/

/-- The depth code of a two-bit field (R231). -/
def Depth.ofBits (k : BitVec 2) : Depth :=
  match k.toNat with
  | 0 => .d4
  | 1 => .d8
  | 2 => .d12
  | _ => .d24

/-- DRAWMODE1.DEPTH, bits 1:0. -/
def State.depth (s : State) : Depth := Depth.ofBits (s.ce.drawmode1.extractLsb' 0 2)

/-- DRAWMODE1.HOSTDEPTH, bits 3:2. -/
def State.hostDepth (s : State) : Depth := Depth.ofBits (s.ce.drawmode1.extractLsb' 2 2)

/-- DRAWMODE1.RGBMODE, bit 4. -/
def State.rgbMode (s : State) : Bool := s.ce.drawmode1.getLsbD 4

/-- DRAWMODE1.LOGICOP, bits 8:5. -/
def State.logicOp (s : State) : BitVec 4 := s.ce.drawmode1.extractLsb' 5 4

/-- DRAWMODE1.SFACTOR, bits 11:9. -/
def State.sfactor (s : State) : Nat := (s.ce.drawmode1.extractLsb' 9 3).toNat

/-- DRAWMODE1.DFACTOR, bits 14:12. -/
def State.dfactor (s : State) : Nat := (s.ce.drawmode1.extractLsb' 12 3).toNat

/-- DRAWMODE1.WPACK, bit 15. -/
def State.wpack (s : State) : Bool := s.ce.drawmode1.getLsbD 15

/-- DRAWMODE1.RPACK, bit 16. -/
def State.rpack (s : State) : Bool := s.ce.drawmode1.getLsbD 16

/-- DRAWMODE1.BYTESWAP, bit 17. -/
def State.byteSwap (s : State) : Bool := s.ce.drawmode1.getLsbD 17

/-! ## DCBMODE (R37) and DISPLAY_CTRL (R46) -/

/-- DCBMODE.SLAVESEL, bits 7:4. -/
def State.slavesel (s : State) : BitVec 4 := s.ce.dcbmode.extractLsb' 4 4

/-- DCBMODE.REGSEL, bits 3:0. -/
def State.regsel (s : State) : BitVec 4 := s.ce.dcbmode.extractLsb' 0 4

/-- TG.DISPLAY_CTRL.CURSOR_EN, bit 0. -/
def State.cursorEn (s : State) : Bool := s.tg.displayCtrl.getLsbD 0

/-- TG.DISPLAY_CTRL.CURSOR_MODE, bit 1: 0 = glyph, 1 = crosshair. -/
def State.cursorCross (s : State) : Bool := s.tg.displayCtrl.getLsbD 1

/-- The cursor size S: 32, or 64 where TG.DISPLAY_CTRL.CURSOR_SIZE, bit 2, is 1 (R311). -/
def State.cursorSize (s : State) : Nat := if s.tg.displayCtrl.getLsbD 2 then 64 else 32

/-- TG.DISPLAY_CTRL.DID_EN, bit 3. -/
def State.didEn (s : State) : Bool := s.tg.displayCtrl.getLsbD 3

/-- TG.DISPLAY_CTRL.VINT_EN, bit 4. -/
def State.vintEn (s : State) : Bool := s.tg.displayCtrl.getLsbD 4

/-- CX = sext_16(CURSOR_X) (R293). -/
def State.cursorPosX (s : State) : Int := s.tg.cursorX.toInt

/-- CY = sext_16(CURSOR_Y) (R293). -/
def State.cursorPosY (s : State) : Int := s.tg.cursorY.toInt

end Sys2Proof.Machine
end

