-- ==== Sys2Proof/Machine/PixelFormat.lean ====
section
/-! DEFINITION. The Pixel-Format Converter (44_pixel_format.md): pure functions over packed colours. -/

namespace Sys2Proof.Machine

/-- `db(k)`, the bits of a depth code (R231). -/
def Depth.db (k : Depth) : Nat :=
  match k with
  | .d4 => 4
  | .d8 => 8
  | .d12 => 12
  | .d24 => 24

/-- The red channel's width (R231). -/
def Depth.wR (k : Depth) : Nat :=
  match k with
  | .d4 => 1
  | .d8 => 3
  | .d12 => 4
  | .d24 => 8

/-- The green channel's width (R231). -/
def Depth.wG (k : Depth) : Nat :=
  match k with
  | .d4 => 2
  | .d8 => 3
  | .d12 => 4
  | .d24 => 8

/-- The blue channel's width (R231). -/
def Depth.wB (k : Depth) : Nat :=
  match k with
  | .d4 => 1
  | .d8 => 2
  | .d12 => 4
  | .d24 => 8

/-- The n-bit field of `v` whose lowest bit is bit `lo`, as an unsigned integer (R10). -/
def fieldAt (v : W32) (lo n : Nat) : Nat := v.toNat / 2 ^ lo % 2 ^ n

/-- The R, G and B fields in storage order: blue most significant, red least (R232). -/
def storageR (k : Depth) (v : W32) : Nat := fieldAt v 0 k.wR

/-- See `storageR` (R232). -/
def storageG (k : Depth) (v : W32) : Nat := fieldAt v k.wR k.wG

/-- See `storageR` (R232). -/
def storageB (k : Depth) (v : W32) : Nat := fieldAt v (k.wR + k.wG) k.wB

/-- The R, G and B fields in host order: red most significant, blue least (R233). -/
def hostR (k : Depth) (v : W32) : Nat := fieldAt v (k.wB + k.wG) k.wR

/-- See `hostR` (R233). -/
def hostG (k : Depth) (v : W32) : Nat := fieldAt v k.wB k.wG

/-- See `hostR` (R233). -/
def hostB (k : Depth) (v : W32) : Nat := fieldAt v 0 k.wB

/-- The storage value with the given fields (R232). -/
def storageOf (k : Depth) (r g b : Nat) : W32 := BitVec.ofNat 32 (r + g * 2 ^ k.wR + b * 2 ^ (k.wR + k.wG))

/-- The host value with the given fields (R233). -/
def hostOf (k : Depth) (r g b : Nat) : W32 := BitVec.ofNat 32 (b + g * 2 ^ k.wB + r * 2 ^ (k.wB + k.wG))

/-- `to_host(k, v)`: each channel of the storage value to its host field (R233). -/
def toHost (k : Depth) (v : W32) : W32 := hostOf k (storageR k v) (storageG k v) (storageB k v)

/-- `from_host(k, h)`: each channel of the host value to its storage field (R233). -/
def fromHost (k : Depth) (h : W32) : W32 := storageOf k (hostR k h) (hostG k h) (hostB k h)

/-- The loop of `rep` (R234): append the n-bit pattern until at least 8 bits are filled. Eight rounds are always enough. -/
def repFill (v n : Nat) (fuel t len : Nat) : Nat × Nat :=
  match fuel with
  | 0 => (t, len)
  | f + 1 => if len < 8 then repFill v n f ((t <<< n) ||| v) (len + n) else (t, len)

/-- `rep(v, n)`: widen an n-bit channel value to 8 bits by replication (R234). -/
def rep (v n : Nat) : W8 :=
  let q := repFill v n 8 0 0
  BitVec.ofNat 8 (q.1 >>> (q.2 - 8))

/-- `narrow(c8, m)`: keep the top m bits (R235). -/
def narrow (c : W8) (m : Nat) : Nat := c.toNat >>> (8 - m)

/-- Three 8-bit channels. -/
structure Rgb8 where
  r : W8
  g : W8
  b : W8
deriving DecidableEq, Repr

/-- `expand(k, v)`: the channels of a storage value, widened to 8 bits (R235). -/
def expand (k : Depth) (v : W32) : Rgb8 :=
  { r := rep (storageR k v) k.wR, g := rep (storageG k v) k.wG, b := rep (storageB k v) k.wB }

/-- `pack(k, r8, g8, b8)`: the storage value of 8-bit channels, narrowed (R235). -/
def pack (k : Depth) (c : Rgb8) : W32 := storageOf k (narrow c.r k.wR) (narrow c.g k.wG) (narrow c.b k.wB)

/-- `convert(k1, k2, v)` (R236). -/
def convert (k1 k2 : Depth) (v : W32) : W32 := pack k2 (expand k1 v)

/-- `swap32(w)`: the bytes reversed (R238). -/
def swap32 (w : W32) : W32 :=
  w.extractLsb' 0 8 ++ w.extractLsb' 8 8 ++ w.extractLsb' 16 8 ++ w.extractLsb' 24 8

/-- A host pixel word, byte-reversed where DRAWMODE1.BYTESWAP asks (R67, R238). -/
def swapHost (s : State) (w : W32) : W32 := if s.byteSwap then swap32 w else w

/-- `cell_to_host(c)` (R239). -/
def cellToHost (s : State) (c : W32) : W32 :=
  let v := c &&& ones s.depth.db
  if s.rgbMode then toHost s.hostDepth (convert s.depth s.hostDepth v) else v &&& ones s.hostDepth.db

/-- `host_source(w)`: a host pixel word as a source value at the destination depth (42_pixel_pipeline.md R190). -/
def hostSource (s : State) (w : W32) : W32 :=
  let h := w &&& ones s.hostDepth.db
  if s.rgbMode then convert s.hostDepth s.depth (fromHost s.hostDepth h) else h &&& ones s.depth.db

end Sys2Proof.Machine
end

