-- ==== Sys2Proof/Machine/Pipeline.lean ====
section
/-! DEFINITION. The pixel pipeline (42_pixel_pipeline.md): clip, bounds and stipple tests, source colour, raster operation,
write mask, the pixel store, and the shading advance (43_rasterizer.md R218). -/

namespace Sys2Proof.Machine

/-! ## The position tests -/

/-- The clip test, signed and inclusive on all four edges (R182, R30). -/
def clipPass (s : State) (x y : Int) : Bool :=
  decide (hiInt s.ce.clipmin ≤ x) && decide (x ≤ hiInt s.ce.clipmax) &&
    decide (loInt s.ce.clipmin ≤ y) && decide (y ≤ loInt s.ce.clipmax)

/-- Register STIPXk, k = 0..4 (R33). -/
def stipX (s : State) (k : Nat) : W32 :=
  match k with
  | 0 => s.ce.stipx0
  | 1 => s.ce.stipx1
  | 2 => s.ce.stipx2
  | 3 => s.ce.stipx3
  | _ => s.ce.stipx4

/-- Register STIPYk, k = 0..4 (R33). -/
def stipY (s : State) (k : Nat) : W32 :=
  match k with
  | 0 => s.ce.stipy0
  | 1 => s.ce.stipy1
  | 2 => s.ce.stipy2
  | 3 => s.ce.stipy3
  | _ => s.ce.stipy4

/-- The stipple test (R186): PATSEL 5..7 disable it; `mod 32` is the non-negative remainder. -/
def stipplePass (s : State) (x y : Int) : Bool :=
  if !s.stipen || decide (5 ≤ s.patsel) then true
  else (stipX s s.patsel).getLsbD (x % 32).toNat && (stipY s s.patsel).getLsbD (y % 32).toNat

/-- The three tests of `plot`, in its order (R181, R187). -/
def positionPass (s : State) (x y : Int) : Bool := clipPass s x y && boundsPass s x y && stipplePass s x y

/-! ## Raster operation -/

/-- `ch(A)`: the 8-bit channel value of a Q16.16 accumulator, `clamp(s32(A) div 65536, 0, 255)` (R31, R189). -/
def channelOf (a : W32) : W8 := BitVec.ofNat 8 (min (max (q16Int a) 0) 255).toNat

/-- The logic operation: bit i of the result is LOGICOP[3 - (2 * s_i + d_i)] (R194). -/
def logicop (op : BitVec 4) (s d : W32) : W32 :=
  (if op.getLsbD 0 then s &&& d else 0) ||| (if op.getLsbD 1 then s &&& ~~~d else 0) |||
    (if op.getLsbD 2 then ~~~s &&& d else 0) ||| (if op.getLsbD 3 then ~~~s &&& ~~~d else 0)

/-- The source weight Fs for one channel (R192): dc is the destination's channel, sa is ch(ALPHA); 6 and 7 are reserved. -/
def sfactorOf (code dc sa : Nat) : Nat :=
  match code with
  | 0 => 0
  | 1 => 255
  | 2 => sa
  | 3 => 255 - sa
  | 4 => dc
  | 5 => 255 - dc
  | _ => 0

/-- The destination weight Fd for one channel (R192): sc is the source's channel; 6 and 7 are reserved. -/
def dfactorOf (code sc sa : Nat) : Nat :=
  match code with
  | 0 => 0
  | 1 => 255
  | 2 => sa
  | 3 => 255 - sa
  | 4 => sc
  | 5 => 255 - sc
  | _ => 0

/-- One channel of the blend equation: `min(255, (sc * Fs + dc * Fd + 127) div 255)` (R193). -/
def blendChannel (sf df sa : Nat) (sc dc : W8) : W8 :=
  BitVec.ofNat 8 (min 255
    ((sc.toNat * sfactorOf sf dc.toNat sa + dc.toNat * dfactorOf df sc.toNat sa + 127) / 255))

/-- `blend(s, d)` (R193). -/
def blend (s : State) (src dst : W32) : W32 :=
  let a := expand s.depth src
  let b := expand s.depth dst
  let sa := (channelOf s.ce.alpha).toNat
  pack s.depth
    { r := blendChannel s.sfactor s.dfactor sa a.r b.r, g := blendChannel s.sfactor s.dfactor sa a.g b.g,
      b := blendChannel s.sfactor s.dfactor sa a.b b.b }

/-- `rop(s, d)`: blending needs RGB mode, else the logic op runs (R191). -/
def rop (s : State) (src dst : W32) : W32 :=
  if s.blendBit && s.rgbMode then blend s src dst else logicop s.logicOp src dst

/-! ## The pixel store -/

/-- The value a store leaves in a cell that held `old`, from source value `src`: the raster operation on the low db(DEPTH)
bits, then the write mask; bits above the depth keep their value (R181, R184, R197). -/
def storeValue (s : State) (old src : W32) : W32 :=
  let m := ones s.depth.db
  let r := rop s (src &&& m) (old &&& m) &&& m
  let wm := s.ce.wrmask &&& m
  (old &&& ~~~wm) ||| (r &&& wm)

/-- The store into one plane, if it is enabled (R181, R185). -/
def storePlane (x y : Int) (src : PlaneId → W32) (s : State) (p : PlaneId) : State :=
  if s.planeEnabled p then planeWrite s p x y (storeValue s (planeRead s p x y) (src p)) else s

/-- `plot(x, y, S)`: the tests once, then every enabled plane in ascending order (R181). -/
def plot (x y : Int) (src : PlaneId → W32) (s : State) : State :=
  if positionPass s x y then planeOrder.foldl (storePlane x y src) s else s

/-! ## Source colour -/

/-- `shaded_value()` (R189): in CI mode the red accumulator iterates the index. -/
def shadedValue (s : State) : W32 :=
  if s.rgbMode then
    pack s.depth { r := channelOf s.ce.red, g := channelOf s.ce.green, b := channelOf s.ce.blue }
  else BitVec.ofInt 32 (q16Int s.ce.red) &&& ones s.depth.db

/-- `fill_source()`, the same value for every plane (R188, R175): COLORSRC 1 shaded, 2 host data, 0 and the reserved 3 flat. -/
def fillSource (s : State) : W32 :=
  match s.colorsrc with
  | 1 => shadedValue s
  | 2 => hostSource s (swapHost s (s.hostdata.extractLsb' 0 32))
  | _ => s.ce.colori

/-- `shade_advance()` (43_rasterizer.md R218): each accumulator plus its slope, modulo 2^32. -/
def shadeAdvance (s : State) : State :=
  { s with ce := { s.ce with
      red := s.ce.red + s.ce.slopeR, green := s.ce.green + s.ce.slopeG, blue := s.ce.blue + s.ce.slopeB,
      alpha := s.ce.alpha + s.ce.slopeA, zacc := s.ce.zacc + s.ce.slopeZ } }

/-- One visited position of a PIXEL, LINE or BLOCK fill: the store, then, when shading is enabled, the advance, whether or not
the store passed its tests (R155, R161, R187, R218). -/
def visit (x y : Int) (s : State) : State :=
  let v := fillSource s
  let s := plot x y (fun _ => v) s
  if s.colorsrc = 1 then shadeAdvance s else s

end Sys2Proof.Machine
end

