-- ==== Sys2Proof/Machine/Raster.lean ====
section
/-! DEFINITION. The rasterizer: the Bresenham octant line stepper (43_rasterizer.md). -/

namespace Sys2Proof.Machine

/-- What `line_setup` computes once for a line (R212): the start, the dominant axis, the spans and the step directions. -/
structure LineSetup where
  x0 : Int
  y0 : Int
  /-- The dominant axis is y: |dy| > |dx|. -/
  ymaj : Bool
  /-- M, the dominant-axis span. -/
  major : Nat
  /-- m, the other axis's span. -/
  minor : Nat
  sx : Sign
  sy : Sign
deriving DecidableEq, Repr

/-- The setup of the line from (x0, y0) to (x1, y1) (R212): equal magnitudes are x-major, a zero delta counts as
non-negative. -/
def lineSetup (x0 y0 x1 y1 : Int) : LineSetup :=
  let dx := x1 - x0
  let dy := y1 - y0
  let ymaj := decide (dx.natAbs < dy.natAbs)
  { x0 := x0, y0 := y0, ymaj := ymaj,
    major := if ymaj then dy.natAbs else dx.natAbs,
    minor := if ymaj then dx.natAbs else dy.natAbs,
    sx := if dx < 0 then .neg else .pos,
    sy := if dy < 0 then .neg else .pos }

/-- The octant code YNEG ‖ XNEG ‖ YMAJOR (R212, R213). -/
def LineSetup.octant (l : LineSetup) : W32 :=
  0#29 ++ BitVec.ofBool (l.sy == .neg) ++ BitVec.ofBool (l.sx == .neg) ++ BitVec.ofBool l.ymaj

/-- The stepping parameters a LINE starts with, in the BRES registers (R212). -/
def loadBres (l : LineSetup) (s : State) : State :=
  { s with ce := { s.ce with
      bresOctant := l.octant,
      bresInc1 := BitVec.ofInt 32 (2 * l.minor),
      bresInc2 := BitVec.ofInt 32 (2 * l.minor - 2 * l.major),
      bresErr := BitVec.ofInt 32 (2 * l.minor - l.major),
      bresCount := BitVec.ofNat 32 l.major } }

/-- The stepper: its position and the machine. -/
structure Stepper where
  x : Int
  y : Int
  s : State
deriving DecidableEq, Repr

/-- The step from one position to the next (R214, R215): diagonal when BRES_ERR is not negative (ties included), else along the
dominant axis only; BRES_ERR and BRES_COUNT follow. -/
def lineMove (l : LineSetup) (t : Stepper) : Stepper :=
  let c := t.s.ce
  if 0 ≤ c.bresErr.toInt then
    { x := t.x + l.sx.toInt, y := t.y + l.sy.toInt,
      s := { t.s with ce := { c with bresErr := c.bresErr + c.bresInc2, bresCount := c.bresCount - 1 } } }
  else
    { x := if l.ymaj then t.x else t.x + l.sx.toInt, y := if l.ymaj then t.y + l.sy.toInt else t.y,
      s := { t.s with ce := { c with bresErr := c.bresErr + c.bresInc1, bresCount := c.bresCount - 1 } } }

/-- One round of the loop of R215 for k < M: the position is visited, then the step is taken. -/
def lineStep (l : LineSetup) (t : Stepper) : Stepper := lineMove l { t with s := visit t.x t.y t.s }

/-- `n` rounds of the loop of R215 (log 20). -/
def lineRun (l : LineSetup) (n : Nat) (t : Stepper) : Stepper :=
  match n with
  | 0 => t
  | k + 1 => lineRun l k (lineStep l t)

/-- Where the stepper of a line starts: at (X0, Y0), the BRES registers set up (R215). -/
def lineStart (l : LineSetup) (s : State) : Stepper := { x := l.x0, y := l.y0, s := loadBres l s }

/-- `bresenham_line` (R215): a zero-length line visits nothing (R217); else M rounds, and the last position is visited only
with ENDPT = 1 (R216). CURXY becomes (X1, Y1) (R221). -/
def bresenhamLine (x0 y0 x1 y1 : Int) (s : State) : State :=
  let l := lineSetup x0 y0 x1 y1
  let t := lineRun l l.major (lineStart l s)
  let s := if l.major = 0 then t.s else if t.s.endpt then visit t.x t.y t.s else t.s
  s.setReg .curxy (packXY x1 y1)

end Sys2Proof.Machine
end

