-- ==== Sys2Proof/Machine/Engine.lean ====
section
/-! DEFINITION. The command engine (41_command_engine.md): the commands, the block iteration, the host transfer and GO. -/

namespace Sys2Proof.Machine

/-! ## BLOCK iteration (R159) -/

/-- One row: the position (x, y) and `n` more, stepping by `d` along x. -/
def rowIter (body : Int → Int → State → State) (d : Int) (n : Nat) (x y : Int) (s : State) : State :=
  match n with
  | 0 => body x y s
  | k + 1 => rowIter body d k (x + d) y (body x y s)

/-- The rows: row `y` and `n` more, stepping by `d` along y; each row starts again at column `x` and has `w` more positions
after its first, stepping by `dx`. -/
def rectIter (body : Int → Int → State → State) (dx : Int) (w : Nat) (x : Int) (d : Int) (n : Nat) (y : Int)
    (s : State) : State :=
  match n with
  | 0 => rowIter body dx w x y s
  | k + 1 => rectIter body dx w x d k (y + d) (rowIter body dx w x y s)

/-- `block_iter`: every position of the rectangle with the given corners, both inclusive, row by row from (x0, y0) toward
(x1, y1) (R159). -/
def blockIter (body : Int → Int → State → State) (x0 y0 x1 y1 : Int) (s : State) : State :=
  rectIter body (signToward x0 x1).toInt (x1 - x0).natAbs x0 (signToward y0 y1).toInt (y1 - y0).natAbs y0 s

/-! ## The commands -/

/-- NOP and the reserved commands: they read nothing and write nothing (R154, R165). -/
def cmdNop (s : State) : State := s

/-- PIXEL (R155). -/
def cmdPixel (s : State) : State := (visit s.x0 s.y0 s).setReg .curxy (packXY s.x0 s.y0)

/-- LINE (R157). -/
def cmdLine (s : State) : State := bresenhamLine s.x0 s.y0 s.x1 s.y1 s

/-- BLOCK fill (R161). -/
def cmdBlockFill (s : State) : State :=
  (blockIter visit s.x0 s.y0 s.x1 s.y1 s).setReg .curxy (packXY s.x1 s.y1)

/-- One visit of a BLOCK copy: the source cell is read, then the destination is stored (R160, R199). -/
def copyVisit (x y : Int) (s : State) : State :=
  plot (x + s.moveX) (y + s.moveY) (fun p => planeRead s p x y &&& ones s.depth.db) s

/-- BLOCK copy (R160). -/
def cmdBlockCopy (s : State) : State :=
  (blockIter copyVisit s.x0 s.y0 s.x1 s.y1 s).setReg .curxy (packXY s.x1 s.y1)

/-- HOST setup (R168): no pixel moves. -/
def cmdHost (dir : XferDir) (s : State) : State :=
  (s.setXf { active := true, dir := dir, x0 := s.x0, y0 := s.y0, x1 := s.x1, y1 := s.y1,
             sx := signToward s.x0 s.x1, sy := signToward s.y0 s.y1, hx := s.x0, hy := s.y0 }).setReg .curxy (packXY s.x0 s.y0)

/-- What a GO does around the command it selects: an active transfer ends first (R152, R153). -/
def goCommand (cmd : State → State) (s : State) : State := cmd (endTransfer s)

/-- `GO()`: the command DRAWMODE0 selects (R90, R152). -/
def go (s : State) : State :=
  match s.cmd with
  | 0 => goCommand cmdNop s
  | 1 => goCommand cmdPixel s
  | 2 => goCommand cmdLine s
  | 3 => if s.copyBit then goCommand cmdBlockCopy s else goCommand cmdBlockFill s
  | 4 => if s.dirBit then goCommand (cmdHost .frameToHost) s else goCommand (cmdHost .hostToFrame) s
  | _ => goCommand cmdNop s

/-! ## Host transfer -/

/-- The transfer cursor's advance (R170): along the row, then to the next row, and after the last pixel the transfer is
complete. -/
def Xfer.advance (f : Xfer) : Xfer :=
  if f.hx ≠ f.x1 then { f with hx := f.hx + f.sx.toInt }
  else if f.hy ≠ f.y1 then { f with hx := f.x0, hy := f.hy + f.sy.toInt }
  else { f with hx := f.x0, active := false }

/-- `xf_advance()`: CURXY takes the pixel just moved, then the cursor advances (R170, R171). -/
def xfAdvance (s : State) : State := (s.setReg .curxy (packXY s.xf.hx s.xf.hy)).setXf s.xf.advance

/-- One word of a host-to-frame write (R169): a completed transfer ignores it. -/
def consumeWord (w : W32) (s : State) : State :=
  if s.xf.active then
    let v := hostSource s (swapHost s w)
    xfAdvance (plot s.xf.hx s.xf.hy (fun _ => v) s)
  else s

/-- `host_consume(H)` (R169): with WPACK two pixels, the more significant half first. -/
def hostConsume (s : State) : State :=
  let h := s.hostdata
  if s.wpack then consumeWord (h.extractLsb' 0 32) (consumeWord (h.extractLsb' 32 32) s)
  else consumeWord (h.extractLsb' 0 32) s

/-- The cell a frame-to-host transfer reads: in the lowest enabled plane, 0 with PLANEMASK = 0 (R172). -/
def transferCell (s : State) : W32 :=
  match planeOrder.find? s.planeEnabled with
  | none => 0
  | some p => planeRead s p s.xf.hx s.xf.hy

/-- One word of a frame-to-host read (R172); with no transfer active the half stays 0. -/
def produceWord (s : State) : State × W32 :=
  if s.xf.active then (xfAdvance s, swapHost s (cellToHost s (transferCell s))) else (s, 0)

/-- `host_produce()` (R172): with RPACK two pixels, the first in the more significant half; else one in the less significant. -/
def hostProduce (s : State) : State × W64 :=
  let a := produceWord s
  if s.rpack then
    let b := produceWord a.1
    (b.1, a.2 ++ b.2)
  else (a.1, 0#32 ++ a.2)

/-! ## Register writes of the CE (40_register_access.md) -/

/-- Write a plain register (R119). -/
def writePlain (r : Reg) (v m : W32) (s : State) : State := s.setReg r (merge (s.ce.get r) v m)

/-- Write DRAWMODE0: bits 31:17 are forced to 0 and an active transfer ends (R117). -/
def writeDrawmode0 (v m : W32) (s : State) : State :=
  endTransfer (s.setReg .drawmode0 (merge s.ce.drawmode0 v m &&& 0x0001FFFF))

/-- Write DRAWMODE1: bits 31:18 are forced to 0 and an active transfer ends (R118). -/
def writeDrawmode1 (v m : W32) (s : State) : State :=
  endTransfer (s.setReg .drawmode1 (merge s.ce.drawmode1 v m &&& 0x0003FFFF))

/-- Write DCBMODE: bits 31:8 are forced to 0 (R119). -/
def writeDcbmode (v m : W32) (s : State) : State := s.setReg .dcbmode (merge s.ce.dcbmode v m &&& 0x000000FF)

/-- Write a coordinate register: an active transfer ends (R120). -/
def writeCoord (r : Reg) (v m : W32) (s : State) : State := endTransfer (writePlain r v m s)

/-- Write a packed view of the coordinate registers `rx` and `ry` (R121, R89): a half whose mask is not zero takes the merged
integer and loses its fraction; an active transfer ends. -/
def writeView (rx ry : Reg) (view v m : W32) (s : State) : State :=
  let nv := merge view v m
  let s := if m.extractLsb' 16 16 ≠ 0 then s.setReg rx (nv.extractLsb' 16 16 ++ 0#16) else s
  let s := if m.extractLsb' 0 16 ≠ 0 then s.setReg ry (nv.extractLsb' 0 16 ++ 0#16) else s
  endTransfer s

/-- Write XYSTARTI (R121). -/
def writeXystarti (v m : W32) (s : State) : State := writeView .xstart .ystart s.xystarti v m s

/-- Write XYENDI (R121). -/
def writeXyendi (v m : W32) (s : State) : State := writeView .xend .yend s.xyendi v m s

/-- A write to a read-only register is ignored (R116). -/
def writeIgnored (s : State) : State := s

/-- Write HOSTDATA: the value is stored, and an active host-to-frame transfer consumes it (R127, R174). -/
def writeHostdata (v m : W64) (s : State) : State :=
  let s := s.setHostdata (merge s.hostdata v m)
  if s.xf.active && s.xf.dir == .hostToFrame then hostConsume s else s

/-- Read HOSTDATA: an active frame-to-host transfer produces it first (R128, R174). -/
def readHostdata (s : State) : State :=
  let s := if s.xf.active && s.xf.dir == .frameToHost then
      let q := hostProduce s
      q.1.setHostdata q.2
    else s
  reply64 s.hostdata s

/-- Read a stored CE register (R124, R132). -/
def readReg (r : Reg) (s : State) : State := reply32 (s.ce.get r) s

end Sys2Proof.Machine
end

