-- ==== Sys2Proof/Machine/Commands.lean ====
section
/-! DEFINITION. The commands as steps of their own (30_encoding.md R90, 41_command_engine.md R152): one meaning per row. Each is what a
GO does when DRAWMODE0 selects it: an active transfer ends, then the command runs (R153). The bits of DRAWMODE0 4:0 that a row
leaves free do not change it (log 4). -/

namespace Sys2Proof.Machine

/-- NOP (R154, R153). -/
def execNop (_copy : Bool) (_dir : Bool) (s : State) : Host.Outcome State Fault Refusal := .next (goCommand cmdNop s)

/-- PIXEL (R155, R153). -/
def execPixel (_copy : Bool) (_dir : Bool) (s : State) : Host.Outcome State Fault Refusal := .next (goCommand cmdPixel s)

/-- LINE (R157, R153). -/
def execLine (_copy : Bool) (_dir : Bool) (s : State) : Host.Outcome State Fault Refusal := .next (goCommand cmdLine s)

/-- BLOCK fill (R161, R153). -/
def execBlockFill (_dir : Bool) (s : State) : Host.Outcome State Fault Refusal := .next (goCommand cmdBlockFill s)

/-- BLOCK copy (R160, R153). -/
def execBlockCopy (_dir : Bool) (s : State) : Host.Outcome State Fault Refusal := .next (goCommand cmdBlockCopy s)

/-- HOST setup, host to frame (R168, R153). -/
def execHostToFrame (_copy : Bool) (s : State) : Host.Outcome State Fault Refusal := .next (goCommand (cmdHost .hostToFrame) s)

/-- HOST setup, frame to host (R168, R153). -/
def execFrameToHost (_copy : Bool) (s : State) : Host.Outcome State Fault Refusal := .next (goCommand (cmdHost .frameToHost) s)

/-- Reserved command 5, which runs as NOP (R165, R153). -/
def execReservedCmd5 (_copy : Bool) (_dir : Bool) (s : State) : Host.Outcome State Fault Refusal := .next (goCommand cmdNop s)

/-- Reserved command 6, which runs as NOP (R165, R153). -/
def execReservedCmd6 (_copy : Bool) (_dir : Bool) (s : State) : Host.Outcome State Fault Refusal := .next (goCommand cmdNop s)

/-- Reserved command 7, which runs as NOP (R165, R153). -/
def execReservedCmd7 (_copy : Bool) (_dir : Bool) (s : State) : Host.Outcome State Fault Refusal := .next (goCommand cmdNop s)

end Sys2Proof.Machine
end

