-- ==== Sys2Proof/Machine/Dcb.lean ====
section
/-! DEFINITION. The device-control bus (48_dcb.md) and the register access of its sub-devices: PMR (45_pixel_mode_resolver.md),
CLUT (46_color_lookup.md), TG (47_timing_cursor.md section 1) and the placeholder register files. A sub-device's read gives the
value it returns and the state after it. -/

namespace Sys2Proof.Machine

/-! ## Pixel-mode resolver (R252) -/

/-- A write of `v` to register select `r` of PMR[i] (R252, R256): MODE_DATA stores at MODE_INDEX and advances it mod 32. -/
def pmrWrite (i : Inst) (r : BitVec 4) (v : W32) (s : State) : State :=
  let p := s.pmr i
  match r.toNat with
  | 0 => s.setPmr i { p with config := v.setWidth 8 &&& 1 }
  | 3 => s.setPmr i { p with cursorCmap := v.setWidth 5 }
  | 4 => s.setPmr i { p with popupCmap := v.setWidth 5 }
  | 5 => s.setPmr i { p with modeIndex := v.setWidth 5 }
  | 6 => s.setPmr i { p with mode := p.mode.set p.modeIndex.toNat (v.setWidth 8), modeIndex := p.modeIndex + 1 }
  | _ => s

/-- What a read of register select `r` of PMR[i] returns (R252, R254, R256); it changes nothing. -/
def pmrRead (i : Inst) (r : BitVec 4) (s : State) : W32 :=
  let p := s.pmr i
  match r.toNat with
  | 0 => p.config.setWidth 32
  | 1 => s.par.pmrRevision
  | 2 => s.par.fifoDepth
  | 3 => p.cursorCmap.setWidth 32
  | 4 => p.popupCmap.setWidth 32
  | 5 => p.modeIndex.setWidth 32
  | 6 => (modeTableEntry s i p.modeIndex.toNat).setWidth 32
  | _ => 0

/-! ## Colour lookup (R272) -/

/-- A write of `v` to register select `r` of CLUT[c] (R273, R275): DATA stores v[23:0] at INDEX and advances it
mod CLUT_ENTRIES. -/
def clutWrite (c : Inst) (r : BitVec 4) (v : W32) (s : State) : State :=
  let t := s.clut c
  match r.toNat with
  | 0 => s.setClut c { t with index := v.toNat % s.par.clutEntries }
  | 1 => s.setClut c { index := (t.index + 1) % s.par.clutEntries,
                       table := t.table.set (t.index % s.par.clutEntries) (v.setWidth 24) }
  | _ => s

/-- What a read of register select `r` of CLUT[c] returns (R272, R276 to R278); it changes nothing. -/
def clutRead (c : Inst) (r : BitVec 4) (s : State) : W32 :=
  match r.toNat with
  | 0 => BitVec.ofNat 32 (s.clut c).index
  | 1 => (clutEntry s c (s.clut c).index).setWidth 32
  | 2 => s.par.clutRevision
  | _ => 0

/-! ## Timing generator (R291 to R295) -/

/-- RAM_ADDR after a RAM_DATA access: `(RAM_ADDR + 1) mod TRAM_WORDS` (R294). -/
def nextRamAddr (s : State) : W16 := BitVec.ofNat 16 ((s.tg.ramAddr.toNat + 1) % s.par.tramWords)

/-- A write of `v` to register select `r` of the TG (R291, R292, R294, R295). -/
def tgWrite (r : BitVec 4) (v : W32) (s : State) : State :=
  let t := s.tg
  let w : W16 := v.setWidth 16
  match r.toNat with
  | 0 => s.setTg { t with vtFramePtr := w, dirty := true }
  | 1 => s.setTg { t with vtLinePtr := w, dirty := true }
  | 2 => s.setTg { t with didFramePtr := w, dirty := true }
  | 3 => s.setTg { t with cursorGlyphPtr := w }
  | 4 => s.setTg { t with cursorX := w }
  | 5 => s.setTg { t with cursorY := w }
  | 6 => s.setTg { t with displayCtrl := w &&& 0x001F, dirty := true }
  | 7 => s.setTg { t with vintLine := w }
  | 8 => s.setTg { t with ramAddr := w }
  | 9 => (tramWrite s t.ramAddr.toNat w).setTg { t with ramAddr := nextRamAddr s, dirty := true }
  | _ => s

/-- A read of register select `r` of the TG: the value, and the state after it; only RAM_DATA changes it (R292, R294). -/
def tgRead (r : BitVec 4) (s : State) : State × W32 :=
  let t := s.tg
  match r.toNat with
  | 0 => (s, t.vtFramePtr.setWidth 32)
  | 1 => (s, t.vtLinePtr.setWidth 32)
  | 2 => (s, t.didFramePtr.setWidth 32)
  | 3 => (s, t.cursorGlyphPtr.setWidth 32)
  | 4 => (s, t.cursorX.setWidth 32)
  | 5 => (s, t.cursorY.setWidth 32)
  | 6 => (s, t.displayCtrl.setWidth 32)
  | 7 => (s, t.vintLine.setWidth 32)
  | 8 => (s, t.ramAddr.setWidth 32)
  | 9 => (s.setTg { t with ramAddr := nextRamAddr s }, (tramRead s t.ramAddr.toNat).setWidth 32)
  | 10 => (s, (s.par.tgRevision.extractLsb' 0 16).setWidth 32)
  | _ => (s, 0)

/-! ## Placeholder register files (R49, R346; log 17) -/

/-- A write stores all 32 bits (R346). -/
def auxWrite (d : AuxId) (r : BitVec 4) (v : W32) (s : State) : State := s.setAux d ((s.aux d).set r.toNat v r.isLt)

/-- A read returns the register (R346). -/
def auxRead (d : AuxId) (r : BitVec 4) (s : State) : W32 := (s.aux d).get r.toFin

/-! ## Routing and transactions -/

/-- `responds(s)`: sub-addresses 0 to 9 have a component (R332). -/
def responds (slave : BitVec 4) : Bool := decide (slave.toNat ≤ 9)

/-- `slave_write(s, r, v)`; a paired write goes to instance 0, then to instance 1 (R332, R344, R92). -/
def slaveWrite (slave r : BitVec 4) (v : W32) (s : State) : State :=
  match slave.toNat with
  | 0 => tgWrite r v s
  | 1 => clutWrite .one r v (clutWrite .zero r v s)
  | 2 => clutWrite .zero r v s
  | 3 => clutWrite .one r v s
  | 4 => pmrWrite .one r v (pmrWrite .zero r v s)
  | 5 => pmrWrite .zero r v s
  | 6 => pmrWrite .one r v s
  | 7 => auxWrite .analog r v s
  | 8 => auxWrite .latch0 r v s
  | 9 => auxWrite .latch1 r v s
  | _ => s

/-- `slave_read(s, r)`: the value, and the state after it; a paired read is instance 0's (R332, R92). -/
def slaveRead (slave r : BitVec 4) (s : State) : State × W32 :=
  match slave.toNat with
  | 0 => tgRead r s
  | 1 | 2 => (s, clutRead .zero r s)
  | 3 => (s, clutRead .one r s)
  | 4 | 5 => (s, pmrRead .zero r s)
  | 6 => (s, pmrRead .one r s)
  | 7 => (s, auxRead .analog r s)
  | 8 => (s, auxRead .latch0 r s)
  | 9 => (s, auxRead .latch1 r s)
  | _ => (s, 0)

/-- A DCB write transaction to the given sub-address and register select (R335): an outstanding timeout is cancelled; a
responding slave takes DCBDATA0; any other arms the timeout (R338). -/
def dcbWriteTo (slave r : BitVec 4) (s : State) : State :=
  let s := s.setPending false
  if responds slave then slaveWrite slave r s.ce.dcbdata0 s else s.setPending true

/-- A DCB read transaction (R336): a responding slave's value goes to DCBDATA0; any other arms the timeout and DCBDATA0 keeps
its value. -/
def dcbReadFrom (slave r : BitVec 4) (s : State) : State :=
  let s := s.setPending false
  if responds slave then
    let q := slaveRead slave r s
    q.1.setReg .dcbdata0 q.2
  else s.setPending true

/-- Write DCBDATA0: the value is stored, then the write transaction DCBMODE selects runs (R125, R335). -/
def writeDcbdata0 (v m : W32) (s : State) : State :=
  let s := writePlain .dcbdata0 v m s
  dcbWriteTo s.slavesel s.regsel s

/-- Read DCBDATA0: the read transaction DCBMODE selects runs, then DCBDATA0 is returned (R126, R336). -/
def readDcbdata0 (s : State) : State :=
  let s := dcbReadFrom s.slavesel s.regsel s
  reply32 s.ce.dcbdata0 s

end Sys2Proof.Machine
end

