-- ==== Sys2Proof/Machine/DcbRead.lean ====
section
/-! DEFINITION. The DCB read transactions (48_dcb.md R336): one meaning per row of sub-address and register select; the value read goes to
DCBDATA0. `k` is the free part of the key. -/

namespace Sys2Proof.Machine

/-- DCB read of TG.VT_FRAME_PTR (R332). -/
def execDcbrTgVtFramePtr (s : State) : Host.Outcome State Fault Refusal := .next (dcbReadFrom 0 0 s)

/-- DCB read of TG.VT_LINE_PTR (R332). -/
def execDcbrTgVtLinePtr (s : State) : Host.Outcome State Fault Refusal := .next (dcbReadFrom 0 1 s)

/-- DCB read of TG.DID_FRAME_PTR (R332). -/
def execDcbrTgDidFramePtr (s : State) : Host.Outcome State Fault Refusal := .next (dcbReadFrom 0 2 s)

/-- DCB read of TG.CURSOR_GLYPH_PTR (R332). -/
def execDcbrTgCursorGlyphPtr (s : State) : Host.Outcome State Fault Refusal := .next (dcbReadFrom 0 3 s)

/-- DCB read of TG.CURSOR_X (R332). -/
def execDcbrTgCursorX (s : State) : Host.Outcome State Fault Refusal := .next (dcbReadFrom 0 4 s)

/-- DCB read of TG.CURSOR_Y (R332). -/
def execDcbrTgCursorY (s : State) : Host.Outcome State Fault Refusal := .next (dcbReadFrom 0 5 s)

/-- DCB read of TG.DISPLAY_CTRL (R332). -/
def execDcbrTgDisplayCtrl (s : State) : Host.Outcome State Fault Refusal := .next (dcbReadFrom 0 6 s)

/-- DCB read of TG.VINT_LINE (R332). -/
def execDcbrTgVintLine (s : State) : Host.Outcome State Fault Refusal := .next (dcbReadFrom 0 7 s)

/-- DCB read of TG.RAM_ADDR (R332). -/
def execDcbrTgRamAddr (s : State) : Host.Outcome State Fault Refusal := .next (dcbReadFrom 0 8 s)

/-- DCB read of TG.RAM_DATA (R332). -/
def execDcbrTgRamData (s : State) : Host.Outcome State Fault Refusal := .next (dcbReadFrom 0 9 s)

/-- DCB read of TG.REVISION (R332). -/
def execDcbrTgRevision (s : State) : Host.Outcome State Fault Refusal := .next (dcbReadFrom 0 10 s)

/-- DCB read of TG.reserved11 (R332). -/
def execDcbrTgReserved11 (s : State) : Host.Outcome State Fault Refusal := .next (dcbReadFrom 0 11 s)

/-- DCB read of TG.reserved12-15 (R332). -/
def execDcbrTgReserved12to15 (k : BitVec 2) (s : State) : Host.Outcome State Fault Refusal := .next (dcbReadFrom 0 (0b11#2 ++ k) s)

/-- DCB read of CLUT01.INDEX (R332). -/
def execDcbrClut01Index (s : State) : Host.Outcome State Fault Refusal := .next (dcbReadFrom 1 0 s)

/-- DCB read of CLUT01.DATA (R332). -/
def execDcbrClut01Data (s : State) : Host.Outcome State Fault Refusal := .next (dcbReadFrom 1 1 s)

/-- DCB read of CLUT01.REVISION (R332). -/
def execDcbrClut01Revision (s : State) : Host.Outcome State Fault Refusal := .next (dcbReadFrom 1 2 s)

/-- DCB read of CLUT01.reserved3 (R332). -/
def execDcbrClut01Reserved3 (s : State) : Host.Outcome State Fault Refusal := .next (dcbReadFrom 1 3 s)

/-- DCB read of CLUT01.reserved4-7 (R332). -/
def execDcbrClut01Reserved4to7 (k : BitVec 2) (s : State) : Host.Outcome State Fault Refusal := .next (dcbReadFrom 1 (0b01#2 ++ k) s)

/-- DCB read of CLUT01.reserved8-15 (R332). -/
def execDcbrClut01Reserved8to15 (k : BitVec 3) (s : State) : Host.Outcome State Fault Refusal := .next (dcbReadFrom 1 (0b1#1 ++ k) s)

/-- DCB read of CLUT0.INDEX (R332). -/
def execDcbrClut0Index (s : State) : Host.Outcome State Fault Refusal := .next (dcbReadFrom 2 0 s)

/-- DCB read of CLUT0.DATA (R332). -/
def execDcbrClut0Data (s : State) : Host.Outcome State Fault Refusal := .next (dcbReadFrom 2 1 s)

/-- DCB read of CLUT0.REVISION (R332). -/
def execDcbrClut0Revision (s : State) : Host.Outcome State Fault Refusal := .next (dcbReadFrom 2 2 s)

/-- DCB read of CLUT0.reserved3 (R332). -/
def execDcbrClut0Reserved3 (s : State) : Host.Outcome State Fault Refusal := .next (dcbReadFrom 2 3 s)

/-- DCB read of CLUT0.reserved4-7 (R332). -/
def execDcbrClut0Reserved4to7 (k : BitVec 2) (s : State) : Host.Outcome State Fault Refusal := .next (dcbReadFrom 2 (0b01#2 ++ k) s)

/-- DCB read of CLUT0.reserved8-15 (R332). -/
def execDcbrClut0Reserved8to15 (k : BitVec 3) (s : State) : Host.Outcome State Fault Refusal := .next (dcbReadFrom 2 (0b1#1 ++ k) s)

/-- DCB read of CLUT1.INDEX (R332). -/
def execDcbrClut1Index (s : State) : Host.Outcome State Fault Refusal := .next (dcbReadFrom 3 0 s)

/-- DCB read of CLUT1.DATA (R332). -/
def execDcbrClut1Data (s : State) : Host.Outcome State Fault Refusal := .next (dcbReadFrom 3 1 s)

/-- DCB read of CLUT1.REVISION (R332). -/
def execDcbrClut1Revision (s : State) : Host.Outcome State Fault Refusal := .next (dcbReadFrom 3 2 s)

/-- DCB read of CLUT1.reserved3 (R332). -/
def execDcbrClut1Reserved3 (s : State) : Host.Outcome State Fault Refusal := .next (dcbReadFrom 3 3 s)

/-- DCB read of CLUT1.reserved4-7 (R332). -/
def execDcbrClut1Reserved4to7 (k : BitVec 2) (s : State) : Host.Outcome State Fault Refusal := .next (dcbReadFrom 3 (0b01#2 ++ k) s)

/-- DCB read of CLUT1.reserved8-15 (R332). -/
def execDcbrClut1Reserved8to15 (k : BitVec 3) (s : State) : Host.Outcome State Fault Refusal := .next (dcbReadFrom 3 (0b1#1 ++ k) s)

/-- DCB read of PMR01.CONFIG (R332). -/
def execDcbrPmr01Config (s : State) : Host.Outcome State Fault Refusal := .next (dcbReadFrom 4 0 s)

/-- DCB read of PMR01.REVISION (R332). -/
def execDcbrPmr01Revision (s : State) : Host.Outcome State Fault Refusal := .next (dcbReadFrom 4 1 s)

/-- DCB read of PMR01.FIFOAVAIL (R332). -/
def execDcbrPmr01Fifoavail (s : State) : Host.Outcome State Fault Refusal := .next (dcbReadFrom 4 2 s)

/-- DCB read of PMR01.CURSOR_CMAP (R332). -/
def execDcbrPmr01CursorCmap (s : State) : Host.Outcome State Fault Refusal := .next (dcbReadFrom 4 3 s)

/-- DCB read of PMR01.POPUP_CMAP (R332). -/
def execDcbrPmr01PopupCmap (s : State) : Host.Outcome State Fault Refusal := .next (dcbReadFrom 4 4 s)

/-- DCB read of PMR01.MODE_INDEX (R332). -/
def execDcbrPmr01ModeIndex (s : State) : Host.Outcome State Fault Refusal := .next (dcbReadFrom 4 5 s)

/-- DCB read of PMR01.MODE_DATA (R332). -/
def execDcbrPmr01ModeData (s : State) : Host.Outcome State Fault Refusal := .next (dcbReadFrom 4 6 s)

/-- DCB read of PMR01.reserved7 (R332). -/
def execDcbrPmr01Reserved7 (s : State) : Host.Outcome State Fault Refusal := .next (dcbReadFrom 4 7 s)

/-- DCB read of PMR01.reserved8-15 (R332). -/
def execDcbrPmr01Reserved8to15 (k : BitVec 3) (s : State) : Host.Outcome State Fault Refusal := .next (dcbReadFrom 4 (0b1#1 ++ k) s)

/-- DCB read of PMR0.CONFIG (R332). -/
def execDcbrPmr0Config (s : State) : Host.Outcome State Fault Refusal := .next (dcbReadFrom 5 0 s)

/-- DCB read of PMR0.REVISION (R332). -/
def execDcbrPmr0Revision (s : State) : Host.Outcome State Fault Refusal := .next (dcbReadFrom 5 1 s)

/-- DCB read of PMR0.FIFOAVAIL (R332). -/
def execDcbrPmr0Fifoavail (s : State) : Host.Outcome State Fault Refusal := .next (dcbReadFrom 5 2 s)

/-- DCB read of PMR0.CURSOR_CMAP (R332). -/
def execDcbrPmr0CursorCmap (s : State) : Host.Outcome State Fault Refusal := .next (dcbReadFrom 5 3 s)

/-- DCB read of PMR0.POPUP_CMAP (R332). -/
def execDcbrPmr0PopupCmap (s : State) : Host.Outcome State Fault Refusal := .next (dcbReadFrom 5 4 s)

/-- DCB read of PMR0.MODE_INDEX (R332). -/
def execDcbrPmr0ModeIndex (s : State) : Host.Outcome State Fault Refusal := .next (dcbReadFrom 5 5 s)

/-- DCB read of PMR0.MODE_DATA (R332). -/
def execDcbrPmr0ModeData (s : State) : Host.Outcome State Fault Refusal := .next (dcbReadFrom 5 6 s)

/-- DCB read of PMR0.reserved7 (R332). -/
def execDcbrPmr0Reserved7 (s : State) : Host.Outcome State Fault Refusal := .next (dcbReadFrom 5 7 s)

/-- DCB read of PMR0.reserved8-15 (R332). -/
def execDcbrPmr0Reserved8to15 (k : BitVec 3) (s : State) : Host.Outcome State Fault Refusal := .next (dcbReadFrom 5 (0b1#1 ++ k) s)

/-- DCB read of PMR1.CONFIG (R332). -/
def execDcbrPmr1Config (s : State) : Host.Outcome State Fault Refusal := .next (dcbReadFrom 6 0 s)

/-- DCB read of PMR1.REVISION (R332). -/
def execDcbrPmr1Revision (s : State) : Host.Outcome State Fault Refusal := .next (dcbReadFrom 6 1 s)

/-- DCB read of PMR1.FIFOAVAIL (R332). -/
def execDcbrPmr1Fifoavail (s : State) : Host.Outcome State Fault Refusal := .next (dcbReadFrom 6 2 s)

/-- DCB read of PMR1.CURSOR_CMAP (R332). -/
def execDcbrPmr1CursorCmap (s : State) : Host.Outcome State Fault Refusal := .next (dcbReadFrom 6 3 s)

/-- DCB read of PMR1.POPUP_CMAP (R332). -/
def execDcbrPmr1PopupCmap (s : State) : Host.Outcome State Fault Refusal := .next (dcbReadFrom 6 4 s)

/-- DCB read of PMR1.MODE_INDEX (R332). -/
def execDcbrPmr1ModeIndex (s : State) : Host.Outcome State Fault Refusal := .next (dcbReadFrom 6 5 s)

/-- DCB read of PMR1.MODE_DATA (R332). -/
def execDcbrPmr1ModeData (s : State) : Host.Outcome State Fault Refusal := .next (dcbReadFrom 6 6 s)

/-- DCB read of PMR1.reserved7 (R332). -/
def execDcbrPmr1Reserved7 (s : State) : Host.Outcome State Fault Refusal := .next (dcbReadFrom 6 7 s)

/-- DCB read of PMR1.reserved8-15 (R332). -/
def execDcbrPmr1Reserved8to15 (k : BitVec 3) (s : State) : Host.Outcome State Fault Refusal := .next (dcbReadFrom 6 (0b1#1 ++ k) s)

/-- DCB read of ANALOG.R[REGSEL] (R332). -/
def execDcbrAnalogR (k : BitVec 4) (s : State) : Host.Outcome State Fault Refusal := .next (dcbReadFrom 7 k s)

/-- DCB read of LATCH0.R[REGSEL] (R332). -/
def execDcbrLatch0R (k : BitVec 4) (s : State) : Host.Outcome State Fault Refusal := .next (dcbReadFrom 8 k s)

/-- DCB read of LATCH1.R[REGSEL] (R332). -/
def execDcbrLatch1R (k : BitVec 4) (s : State) : Host.Outcome State Fault Refusal := .next (dcbReadFrom 9 k s)

/-- DCB read of a sub-address with no component, 10-11: it times out (R338). -/
def execDcbrNone10to11 (k : BitVec 5) (s : State) : Host.Outcome State Fault Refusal := .next (dcbReadFrom (0b101#3 ++ k.extractLsb' 4 1) (k.extractLsb' 0 4) s)

/-- DCB read of a sub-address with no component, 12-15: it times out (R338). -/
def execDcbrNone12to15 (k : BitVec 6) (s : State) : Host.Outcome State Fault Refusal := .next (dcbReadFrom (0b11#2 ++ k.extractLsb' 4 2) (k.extractLsb' 0 4) s)

end Sys2Proof.Machine
end

