-- ==== Sys2Proof/Machine/DcbWrite.lean ====
section
/-! DEFINITION. The DCB write transactions (48_dcb.md R335): one meaning per row of sub-address and register select; the value written is
DCBDATA0 (R331). `k` is the free part of the key. -/

namespace Sys2Proof.Machine

/-- DCB write of TG.VT_FRAME_PTR (R332). -/
def execDcbwTgVtFramePtr (s : State) : Host.Outcome State Fault Refusal := .next (dcbWriteTo 0 0 s)

/-- DCB write of TG.VT_LINE_PTR (R332). -/
def execDcbwTgVtLinePtr (s : State) : Host.Outcome State Fault Refusal := .next (dcbWriteTo 0 1 s)

/-- DCB write of TG.DID_FRAME_PTR (R332). -/
def execDcbwTgDidFramePtr (s : State) : Host.Outcome State Fault Refusal := .next (dcbWriteTo 0 2 s)

/-- DCB write of TG.CURSOR_GLYPH_PTR (R332). -/
def execDcbwTgCursorGlyphPtr (s : State) : Host.Outcome State Fault Refusal := .next (dcbWriteTo 0 3 s)

/-- DCB write of TG.CURSOR_X (R332). -/
def execDcbwTgCursorX (s : State) : Host.Outcome State Fault Refusal := .next (dcbWriteTo 0 4 s)

/-- DCB write of TG.CURSOR_Y (R332). -/
def execDcbwTgCursorY (s : State) : Host.Outcome State Fault Refusal := .next (dcbWriteTo 0 5 s)

/-- DCB write of TG.DISPLAY_CTRL (R332). -/
def execDcbwTgDisplayCtrl (s : State) : Host.Outcome State Fault Refusal := .next (dcbWriteTo 0 6 s)

/-- DCB write of TG.VINT_LINE (R332). -/
def execDcbwTgVintLine (s : State) : Host.Outcome State Fault Refusal := .next (dcbWriteTo 0 7 s)

/-- DCB write of TG.RAM_ADDR (R332). -/
def execDcbwTgRamAddr (s : State) : Host.Outcome State Fault Refusal := .next (dcbWriteTo 0 8 s)

/-- DCB write of TG.RAM_DATA (R332). -/
def execDcbwTgRamData (s : State) : Host.Outcome State Fault Refusal := .next (dcbWriteTo 0 9 s)

/-- DCB write of TG.REVISION (R332). -/
def execDcbwTgRevision (s : State) : Host.Outcome State Fault Refusal := .next (dcbWriteTo 0 10 s)

/-- DCB write of TG.reserved11 (R332). -/
def execDcbwTgReserved11 (s : State) : Host.Outcome State Fault Refusal := .next (dcbWriteTo 0 11 s)

/-- DCB write of TG.reserved12-15 (R332). -/
def execDcbwTgReserved12to15 (k : BitVec 2) (s : State) : Host.Outcome State Fault Refusal := .next (dcbWriteTo 0 (0b11#2 ++ k) s)

/-- DCB write of CLUT01.INDEX (R332). -/
def execDcbwClut01Index (s : State) : Host.Outcome State Fault Refusal := .next (dcbWriteTo 1 0 s)

/-- DCB write of CLUT01.DATA (R332). -/
def execDcbwClut01Data (s : State) : Host.Outcome State Fault Refusal := .next (dcbWriteTo 1 1 s)

/-- DCB write of CLUT01.REVISION (R332). -/
def execDcbwClut01Revision (s : State) : Host.Outcome State Fault Refusal := .next (dcbWriteTo 1 2 s)

/-- DCB write of CLUT01.reserved3 (R332). -/
def execDcbwClut01Reserved3 (s : State) : Host.Outcome State Fault Refusal := .next (dcbWriteTo 1 3 s)

/-- DCB write of CLUT01.reserved4-7 (R332). -/
def execDcbwClut01Reserved4to7 (k : BitVec 2) (s : State) : Host.Outcome State Fault Refusal := .next (dcbWriteTo 1 (0b01#2 ++ k) s)

/-- DCB write of CLUT01.reserved8-15 (R332). -/
def execDcbwClut01Reserved8to15 (k : BitVec 3) (s : State) : Host.Outcome State Fault Refusal := .next (dcbWriteTo 1 (0b1#1 ++ k) s)

/-- DCB write of CLUT0.INDEX (R332). -/
def execDcbwClut0Index (s : State) : Host.Outcome State Fault Refusal := .next (dcbWriteTo 2 0 s)

/-- DCB write of CLUT0.DATA (R332). -/
def execDcbwClut0Data (s : State) : Host.Outcome State Fault Refusal := .next (dcbWriteTo 2 1 s)

/-- DCB write of CLUT0.REVISION (R332). -/
def execDcbwClut0Revision (s : State) : Host.Outcome State Fault Refusal := .next (dcbWriteTo 2 2 s)

/-- DCB write of CLUT0.reserved3 (R332). -/
def execDcbwClut0Reserved3 (s : State) : Host.Outcome State Fault Refusal := .next (dcbWriteTo 2 3 s)

/-- DCB write of CLUT0.reserved4-7 (R332). -/
def execDcbwClut0Reserved4to7 (k : BitVec 2) (s : State) : Host.Outcome State Fault Refusal := .next (dcbWriteTo 2 (0b01#2 ++ k) s)

/-- DCB write of CLUT0.reserved8-15 (R332). -/
def execDcbwClut0Reserved8to15 (k : BitVec 3) (s : State) : Host.Outcome State Fault Refusal := .next (dcbWriteTo 2 (0b1#1 ++ k) s)

/-- DCB write of CLUT1.INDEX (R332). -/
def execDcbwClut1Index (s : State) : Host.Outcome State Fault Refusal := .next (dcbWriteTo 3 0 s)

/-- DCB write of CLUT1.DATA (R332). -/
def execDcbwClut1Data (s : State) : Host.Outcome State Fault Refusal := .next (dcbWriteTo 3 1 s)

/-- DCB write of CLUT1.REVISION (R332). -/
def execDcbwClut1Revision (s : State) : Host.Outcome State Fault Refusal := .next (dcbWriteTo 3 2 s)

/-- DCB write of CLUT1.reserved3 (R332). -/
def execDcbwClut1Reserved3 (s : State) : Host.Outcome State Fault Refusal := .next (dcbWriteTo 3 3 s)

/-- DCB write of CLUT1.reserved4-7 (R332). -/
def execDcbwClut1Reserved4to7 (k : BitVec 2) (s : State) : Host.Outcome State Fault Refusal := .next (dcbWriteTo 3 (0b01#2 ++ k) s)

/-- DCB write of CLUT1.reserved8-15 (R332). -/
def execDcbwClut1Reserved8to15 (k : BitVec 3) (s : State) : Host.Outcome State Fault Refusal := .next (dcbWriteTo 3 (0b1#1 ++ k) s)

/-- DCB write of PMR01.CONFIG (R332). -/
def execDcbwPmr01Config (s : State) : Host.Outcome State Fault Refusal := .next (dcbWriteTo 4 0 s)

/-- DCB write of PMR01.REVISION (R332). -/
def execDcbwPmr01Revision (s : State) : Host.Outcome State Fault Refusal := .next (dcbWriteTo 4 1 s)

/-- DCB write of PMR01.FIFOAVAIL (R332). -/
def execDcbwPmr01Fifoavail (s : State) : Host.Outcome State Fault Refusal := .next (dcbWriteTo 4 2 s)

/-- DCB write of PMR01.CURSOR_CMAP (R332). -/
def execDcbwPmr01CursorCmap (s : State) : Host.Outcome State Fault Refusal := .next (dcbWriteTo 4 3 s)

/-- DCB write of PMR01.POPUP_CMAP (R332). -/
def execDcbwPmr01PopupCmap (s : State) : Host.Outcome State Fault Refusal := .next (dcbWriteTo 4 4 s)

/-- DCB write of PMR01.MODE_INDEX (R332). -/
def execDcbwPmr01ModeIndex (s : State) : Host.Outcome State Fault Refusal := .next (dcbWriteTo 4 5 s)

/-- DCB write of PMR01.MODE_DATA (R332). -/
def execDcbwPmr01ModeData (s : State) : Host.Outcome State Fault Refusal := .next (dcbWriteTo 4 6 s)

/-- DCB write of PMR01.reserved7 (R332). -/
def execDcbwPmr01Reserved7 (s : State) : Host.Outcome State Fault Refusal := .next (dcbWriteTo 4 7 s)

/-- DCB write of PMR01.reserved8-15 (R332). -/
def execDcbwPmr01Reserved8to15 (k : BitVec 3) (s : State) : Host.Outcome State Fault Refusal := .next (dcbWriteTo 4 (0b1#1 ++ k) s)

/-- DCB write of PMR0.CONFIG (R332). -/
def execDcbwPmr0Config (s : State) : Host.Outcome State Fault Refusal := .next (dcbWriteTo 5 0 s)

/-- DCB write of PMR0.REVISION (R332). -/
def execDcbwPmr0Revision (s : State) : Host.Outcome State Fault Refusal := .next (dcbWriteTo 5 1 s)

/-- DCB write of PMR0.FIFOAVAIL (R332). -/
def execDcbwPmr0Fifoavail (s : State) : Host.Outcome State Fault Refusal := .next (dcbWriteTo 5 2 s)

/-- DCB write of PMR0.CURSOR_CMAP (R332). -/
def execDcbwPmr0CursorCmap (s : State) : Host.Outcome State Fault Refusal := .next (dcbWriteTo 5 3 s)

/-- DCB write of PMR0.POPUP_CMAP (R332). -/
def execDcbwPmr0PopupCmap (s : State) : Host.Outcome State Fault Refusal := .next (dcbWriteTo 5 4 s)

/-- DCB write of PMR0.MODE_INDEX (R332). -/
def execDcbwPmr0ModeIndex (s : State) : Host.Outcome State Fault Refusal := .next (dcbWriteTo 5 5 s)

/-- DCB write of PMR0.MODE_DATA (R332). -/
def execDcbwPmr0ModeData (s : State) : Host.Outcome State Fault Refusal := .next (dcbWriteTo 5 6 s)

/-- DCB write of PMR0.reserved7 (R332). -/
def execDcbwPmr0Reserved7 (s : State) : Host.Outcome State Fault Refusal := .next (dcbWriteTo 5 7 s)

/-- DCB write of PMR0.reserved8-15 (R332). -/
def execDcbwPmr0Reserved8to15 (k : BitVec 3) (s : State) : Host.Outcome State Fault Refusal := .next (dcbWriteTo 5 (0b1#1 ++ k) s)

/-- DCB write of PMR1.CONFIG (R332). -/
def execDcbwPmr1Config (s : State) : Host.Outcome State Fault Refusal := .next (dcbWriteTo 6 0 s)

/-- DCB write of PMR1.REVISION (R332). -/
def execDcbwPmr1Revision (s : State) : Host.Outcome State Fault Refusal := .next (dcbWriteTo 6 1 s)

/-- DCB write of PMR1.FIFOAVAIL (R332). -/
def execDcbwPmr1Fifoavail (s : State) : Host.Outcome State Fault Refusal := .next (dcbWriteTo 6 2 s)

/-- DCB write of PMR1.CURSOR_CMAP (R332). -/
def execDcbwPmr1CursorCmap (s : State) : Host.Outcome State Fault Refusal := .next (dcbWriteTo 6 3 s)

/-- DCB write of PMR1.POPUP_CMAP (R332). -/
def execDcbwPmr1PopupCmap (s : State) : Host.Outcome State Fault Refusal := .next (dcbWriteTo 6 4 s)

/-- DCB write of PMR1.MODE_INDEX (R332). -/
def execDcbwPmr1ModeIndex (s : State) : Host.Outcome State Fault Refusal := .next (dcbWriteTo 6 5 s)

/-- DCB write of PMR1.MODE_DATA (R332). -/
def execDcbwPmr1ModeData (s : State) : Host.Outcome State Fault Refusal := .next (dcbWriteTo 6 6 s)

/-- DCB write of PMR1.reserved7 (R332). -/
def execDcbwPmr1Reserved7 (s : State) : Host.Outcome State Fault Refusal := .next (dcbWriteTo 6 7 s)

/-- DCB write of PMR1.reserved8-15 (R332). -/
def execDcbwPmr1Reserved8to15 (k : BitVec 3) (s : State) : Host.Outcome State Fault Refusal := .next (dcbWriteTo 6 (0b1#1 ++ k) s)

/-- DCB write of ANALOG.R[REGSEL] (R332). -/
def execDcbwAnalogR (k : BitVec 4) (s : State) : Host.Outcome State Fault Refusal := .next (dcbWriteTo 7 k s)

/-- DCB write of LATCH0.R[REGSEL] (R332). -/
def execDcbwLatch0R (k : BitVec 4) (s : State) : Host.Outcome State Fault Refusal := .next (dcbWriteTo 8 k s)

/-- DCB write of LATCH1.R[REGSEL] (R332). -/
def execDcbwLatch1R (k : BitVec 4) (s : State) : Host.Outcome State Fault Refusal := .next (dcbWriteTo 9 k s)

/-- DCB write of a sub-address with no component, 10-11: it times out (R338). -/
def execDcbwNone10to11 (k : BitVec 5) (s : State) : Host.Outcome State Fault Refusal := .next (dcbWriteTo (0b101#3 ++ k.extractLsb' 4 1) (k.extractLsb' 0 4) s)

/-- DCB write of a sub-address with no component, 12-15: it times out (R338). -/
def execDcbwNone12to15 (k : BitVec 6) (s : State) : Host.Outcome State Fault Refusal := .next (dcbWriteTo (0b11#2 ++ k.extractLsb' 4 2) (k.extractLsb' 0 4) s)

end Sys2Proof.Machine
end

