-- ==== Sys2Proof/Machine/Flags.lean ====
section
/-! DEFINITION. STATUS: the core's flags (10_state.md R36). No command computes a flag other than HOSTACT (41_command_engine.md
R167); the sticky bits are set by the vertical interrupt and the DCB timeout and cleared by writing 1. -/

namespace Sys2Proof.Machine

/-- The STATUS word (R36, R122): bits 31:10 and FIFOLVL (9:5) read 0, then VINT, DCBTMO, DCBPEND, HOSTACT and BUSY, which
reads 0. -/
def statusWord (s : State) : W32 :=
  0#27 ++ BitVec.ofBool s.vint ++ BitVec.ofBool s.dcbtmo ++ BitVec.ofBool s.dcbPending ++ BitVec.ofBool s.xf.active ++ 0#1

/-- A write to STATUS clears the sticky bits whose written lane is 1 (R123). -/
def writeStatus (v m : W32) (s : State) : State :=
  let c := v &&& m
  let s := if c.getLsbD 4 then s.setVint false else s
  if c.getLsbD 3 then s.setDcbtmo false else s

/-- `vint_check(y)`: at scanline VINT_LINE, with VINT_EN set, STATUS.VINT is set and one VINT edge is emitted
(47_timing_cursor.md R321). -/
def vintCheck (y : Nat) (s : State) : State :=
  if s.vintEn && decide (y = s.tg.vintLine.toNat) then (s.setVint true).emit .vint else s

/-- `dcb_timeout()`, the timer's step, enabled exactly while DCB.pending (48_dcb.md R341); asked for while it is not enabled,
nothing happens (log 3). -/
def dcbTimeout (s : State) : State :=
  if s.dcbPending then (s.setPending false).setDcbtmo true else s

end Sys2Proof.Machine
end

