-- ==== Sys2Proof/Machine/Events.lean ====
section
/-! DEFINITION. The timeout event (48_dcb.md R341) and the two reset inputs (70_reset_and_hazards.md R381, R382): one meaning
per row. -/

namespace Sys2Proof.Machine

/-- `dcb_timeout()` (R341); with no access pending the event is not enabled and nothing happens (log 3). -/
def execDcbTimeout (s : State) : Host.Outcome State Fault Refusal := .next (dcbTimeout s)

/-- `hard_reset` (R381). -/
def execHardReset (s : State) : Host.Outcome State Fault Refusal := .next (hardReset s)

/-- `soft_reset` (R382). -/
def execSoftReset (s : State) : Host.Outcome State Fault Refusal := .next (softReset s)

end Sys2Proof.Machine
end

