-- ==== Sys2Proof/Machine/HostGo.lean ====
section
/-! DEFINITION. The host writes at the GO aliases (30_encoding.md R85, 40_register_access.md R129): one meaning per row. The write of the
register with all its own effects, then the command DRAWMODE0 selects; with the mask 0 nothing at all (R131). -/

namespace Sys2Proof.Machine

/-- Write DRAWMODE0 at the GO alias, then GO (R117, R129). -/
def execGDrawmode0 (v m : W32) (s : State) : Host.Outcome State Fault Refusal :=
  .next (whenMasked m (fun t => go (writeDrawmode0 v m t)) s)

/-- Write DRAWMODE1 at the GO alias, then GO (R118, R129). -/
def execGDrawmode1 (v m : W32) (s : State) : Host.Outcome State Fault Refusal :=
  .next (whenMasked m (fun t => go (writeDrawmode1 v m t)) s)

/-- Write WRMASK at the GO alias, then GO (R119, R129). -/
def execGWrmask (v m : W32) (s : State) : Host.Outcome State Fault Refusal :=
  .next (whenMasked m (fun t => go (writePlain .wrmask v m t)) s)

/-- Write COLORI at the GO alias, then GO (R119, R129). -/
def execGColori (v m : W32) (s : State) : Host.Outcome State Fault Refusal :=
  .next (whenMasked m (fun t => go (writePlain .colori v m t)) s)

/-- Write XSTART at the GO alias, then GO (R120, R129). -/
def execGXstart (v m : W32) (s : State) : Host.Outcome State Fault Refusal :=
  .next (whenMasked m (fun t => go (writeCoord .xstart v m t)) s)

/-- Write YSTART at the GO alias, then GO (R120, R129). -/
def execGYstart (v m : W32) (s : State) : Host.Outcome State Fault Refusal :=
  .next (whenMasked m (fun t => go (writeCoord .ystart v m t)) s)

/-- Write XEND at the GO alias, then GO (R120, R129). -/
def execGXend (v m : W32) (s : State) : Host.Outcome State Fault Refusal :=
  .next (whenMasked m (fun t => go (writeCoord .xend v m t)) s)

/-- Write YEND at the GO alias, then GO (R120, R129). -/
def execGYend (v m : W32) (s : State) : Host.Outcome State Fault Refusal :=
  .next (whenMasked m (fun t => go (writeCoord .yend v m t)) s)

/-- Write XYSTARTI at the GO alias, then GO (R121, R129). -/
def execGXystarti (v m : W32) (s : State) : Host.Outcome State Fault Refusal :=
  .next (whenMasked m (fun t => go (writeXystarti v m t)) s)

/-- Write XYENDI at the GO alias, then GO (R121, R129). -/
def execGXyendi (v m : W32) (s : State) : Host.Outcome State Fault Refusal :=
  .next (whenMasked m (fun t => go (writeXyendi v m t)) s)

/-- Write XYMOVE at the GO alias, then GO (R119, R129). -/
def execGXymove (v m : W32) (s : State) : Host.Outcome State Fault Refusal :=
  .next (whenMasked m (fun t => go (writePlain .xymove v m t)) s)

/-- Write CLIPMIN at the GO alias, then GO (R119, R129). -/
def execGClipmin (v m : W32) (s : State) : Host.Outcome State Fault Refusal :=
  .next (whenMasked m (fun t => go (writePlain .clipmin v m t)) s)

/-- Write CLIPMAX at the GO alias, then GO (R119, R129). -/
def execGClipmax (v m : W32) (s : State) : Host.Outcome State Fault Refusal :=
  .next (whenMasked m (fun t => go (writePlain .clipmax v m t)) s)

/-- Write RED at the GO alias, then GO (R119, R129). -/
def execGRed (v m : W32) (s : State) : Host.Outcome State Fault Refusal :=
  .next (whenMasked m (fun t => go (writePlain .red v m t)) s)

/-- Write GREEN at the GO alias, then GO (R119, R129). -/
def execGGreen (v m : W32) (s : State) : Host.Outcome State Fault Refusal :=
  .next (whenMasked m (fun t => go (writePlain .green v m t)) s)

/-- Write BLUE at the GO alias, then GO (R119, R129). -/
def execGBlue (v m : W32) (s : State) : Host.Outcome State Fault Refusal :=
  .next (whenMasked m (fun t => go (writePlain .blue v m t)) s)

/-- Write ALPHA at the GO alias, then GO (R119, R129). -/
def execGAlpha (v m : W32) (s : State) : Host.Outcome State Fault Refusal :=
  .next (whenMasked m (fun t => go (writePlain .alpha v m t)) s)

/-- Write ZACC at the GO alias, then GO (R119, R129). -/
def execGZacc (v m : W32) (s : State) : Host.Outcome State Fault Refusal :=
  .next (whenMasked m (fun t => go (writePlain .zacc v m t)) s)

/-- Write SLOPE_R at the GO alias, then GO (R119, R129). -/
def execGSlopeR (v m : W32) (s : State) : Host.Outcome State Fault Refusal :=
  .next (whenMasked m (fun t => go (writePlain .slopeR v m t)) s)

/-- Write SLOPE_G at the GO alias, then GO (R119, R129). -/
def execGSlopeG (v m : W32) (s : State) : Host.Outcome State Fault Refusal :=
  .next (whenMasked m (fun t => go (writePlain .slopeG v m t)) s)

/-- Write SLOPE_B at the GO alias, then GO (R119, R129). -/
def execGSlopeB (v m : W32) (s : State) : Host.Outcome State Fault Refusal :=
  .next (whenMasked m (fun t => go (writePlain .slopeB v m t)) s)

/-- Write SLOPE_A at the GO alias, then GO (R119, R129). -/
def execGSlopeA (v m : W32) (s : State) : Host.Outcome State Fault Refusal :=
  .next (whenMasked m (fun t => go (writePlain .slopeA v m t)) s)

/-- Write SLOPE_Z at the GO alias, then GO (R119, R129). -/
def execGSlopeZ (v m : W32) (s : State) : Host.Outcome State Fault Refusal :=
  .next (whenMasked m (fun t => go (writePlain .slopeZ v m t)) s)

/-- Write STIPX0 at the GO alias, then GO (R119, R129). -/
def execGStipx0 (v m : W32) (s : State) : Host.Outcome State Fault Refusal :=
  .next (whenMasked m (fun t => go (writePlain .stipx0 v m t)) s)

/-- Write STIPX1 at the GO alias, then GO (R119, R129). -/
def execGStipx1 (v m : W32) (s : State) : Host.Outcome State Fault Refusal :=
  .next (whenMasked m (fun t => go (writePlain .stipx1 v m t)) s)

/-- Write STIPX2 at the GO alias, then GO (R119, R129). -/
def execGStipx2 (v m : W32) (s : State) : Host.Outcome State Fault Refusal :=
  .next (whenMasked m (fun t => go (writePlain .stipx2 v m t)) s)

/-- Write STIPX3 at the GO alias, then GO (R119, R129). -/
def execGStipx3 (v m : W32) (s : State) : Host.Outcome State Fault Refusal :=
  .next (whenMasked m (fun t => go (writePlain .stipx3 v m t)) s)

/-- Write STIPX4 at the GO alias, then GO (R119, R129). -/
def execGStipx4 (v m : W32) (s : State) : Host.Outcome State Fault Refusal :=
  .next (whenMasked m (fun t => go (writePlain .stipx4 v m t)) s)

/-- Write STIPY0 at the GO alias, then GO (R119, R129). -/
def execGStipy0 (v m : W32) (s : State) : Host.Outcome State Fault Refusal :=
  .next (whenMasked m (fun t => go (writePlain .stipy0 v m t)) s)

/-- Write STIPY1 at the GO alias, then GO (R119, R129). -/
def execGStipy1 (v m : W32) (s : State) : Host.Outcome State Fault Refusal :=
  .next (whenMasked m (fun t => go (writePlain .stipy1 v m t)) s)

/-- Write STIPY2 at the GO alias, then GO (R119, R129). -/
def execGStipy2 (v m : W32) (s : State) : Host.Outcome State Fault Refusal :=
  .next (whenMasked m (fun t => go (writePlain .stipy2 v m t)) s)

/-- Write STIPY3 at the GO alias, then GO (R119, R129). -/
def execGStipy3 (v m : W32) (s : State) : Host.Outcome State Fault Refusal :=
  .next (whenMasked m (fun t => go (writePlain .stipy3 v m t)) s)

/-- Write STIPY4 at the GO alias, then GO (R119, R129). -/
def execGStipy4 (v m : W32) (s : State) : Host.Outcome State Fault Refusal :=
  .next (whenMasked m (fun t => go (writePlain .stipy4 v m t)) s)

/-- Write BRES_ERR (read-only, ignored) at the GO alias, then GO (R116, R129). -/
def execGBresErr (_v m : W32) (s : State) : Host.Outcome State Fault Refusal :=
  .next (whenMasked m (fun t => go (writeIgnored t)) s)

/-- Write BRES_INC1 (read-only, ignored) at the GO alias, then GO (R116, R129). -/
def execGBresInc1 (_v m : W32) (s : State) : Host.Outcome State Fault Refusal :=
  .next (whenMasked m (fun t => go (writeIgnored t)) s)

/-- Write BRES_INC2 (read-only, ignored) at the GO alias, then GO (R116, R129). -/
def execGBresInc2 (_v m : W32) (s : State) : Host.Outcome State Fault Refusal :=
  .next (whenMasked m (fun t => go (writeIgnored t)) s)

/-- Write BRES_COUNT (read-only, ignored) at the GO alias, then GO (R116, R129). -/
def execGBresCount (_v m : W32) (s : State) : Host.Outcome State Fault Refusal :=
  .next (whenMasked m (fun t => go (writeIgnored t)) s)

/-- Write BRES_OCTANT (read-only, ignored) at the GO alias, then GO (R116, R129). -/
def execGBresOctant (_v m : W32) (s : State) : Host.Outcome State Fault Refusal :=
  .next (whenMasked m (fun t => go (writeIgnored t)) s)

/-- Write CURXY (read-only, ignored) at the GO alias, then GO (R116, R129). -/
def execGCurxy (_v m : W32) (s : State) : Host.Outcome State Fault Refusal :=
  .next (whenMasked m (fun t => go (writeIgnored t)) s)

/-- Write STATUS at the GO alias, then GO (R123, R129). -/
def execGStatus (v m : W32) (s : State) : Host.Outcome State Fault Refusal :=
  .next (whenMasked m (fun t => go (writeStatus v m t)) s)

/-- Write DCBMODE at the GO alias, then GO (R119, R129). -/
def execGDcbmode (v m : W32) (s : State) : Host.Outcome State Fault Refusal :=
  .next (whenMasked m (fun t => go (writeDcbmode v m t)) s)

/-- Write DCBDATA0 at the GO alias, then GO (R125, R129). -/
def execGDcbdata0 (v m : W32) (s : State) : Host.Outcome State Fault Refusal :=
  .next (whenMasked m (fun t => go (writeDcbdata0 v m t)) s)

/-- Write DCBDATA1 at the GO alias, then GO (R119, R129). -/
def execGDcbdata1 (v m : W32) (s : State) : Host.Outcome State Fault Refusal :=
  .next (whenMasked m (fun t => go (writePlain .dcbdata1 v m t)) s)

/-- Write HOSTDATA at the GO alias, then GO (R127, R129). -/
def execG64Hostdata (v m : W64) (s : State) : Host.Outcome State Fault Refusal :=
  .next (whenMasked m (fun t => go (writeHostdata v m t)) s)

end Sys2Proof.Machine
end

