-- ==== Sys2Proof/Machine/HostRead.lean ====
section
/-! DEFINITION. The host reads (40_register_access.md R112): one meaning per row, at the register's own offset and at its GO alias,
where a read is the read of the register and runs no command (R130). A width-4 read answers 32 bits, HOSTDATA 64. -/

namespace Sys2Proof.Machine

/-- Read DRAWMODE0 (R132). -/
def execRDrawmode0 (s : State) : Host.Outcome State Fault Refusal := .next (readReg .drawmode0 s)

/-- Read DRAWMODE0 at the GO alias (R132, R130). -/
def execRaDrawmode0 (s : State) : Host.Outcome State Fault Refusal := .next (readReg .drawmode0 s)

/-- Read DRAWMODE1 (R132). -/
def execRDrawmode1 (s : State) : Host.Outcome State Fault Refusal := .next (readReg .drawmode1 s)

/-- Read DRAWMODE1 at the GO alias (R132, R130). -/
def execRaDrawmode1 (s : State) : Host.Outcome State Fault Refusal := .next (readReg .drawmode1 s)

/-- Read WRMASK (R132). -/
def execRWrmask (s : State) : Host.Outcome State Fault Refusal := .next (readReg .wrmask s)

/-- Read WRMASK at the GO alias (R132, R130). -/
def execRaWrmask (s : State) : Host.Outcome State Fault Refusal := .next (readReg .wrmask s)

/-- Read COLORI (R132). -/
def execRColori (s : State) : Host.Outcome State Fault Refusal := .next (readReg .colori s)

/-- Read COLORI at the GO alias (R132, R130). -/
def execRaColori (s : State) : Host.Outcome State Fault Refusal := .next (readReg .colori s)

/-- Read XSTART (R132). -/
def execRXstart (s : State) : Host.Outcome State Fault Refusal := .next (readReg .xstart s)

/-- Read XSTART at the GO alias (R132, R130). -/
def execRaXstart (s : State) : Host.Outcome State Fault Refusal := .next (readReg .xstart s)

/-- Read YSTART (R132). -/
def execRYstart (s : State) : Host.Outcome State Fault Refusal := .next (readReg .ystart s)

/-- Read YSTART at the GO alias (R132, R130). -/
def execRaYstart (s : State) : Host.Outcome State Fault Refusal := .next (readReg .ystart s)

/-- Read XEND (R132). -/
def execRXend (s : State) : Host.Outcome State Fault Refusal := .next (readReg .xend s)

/-- Read XEND at the GO alias (R132, R130). -/
def execRaXend (s : State) : Host.Outcome State Fault Refusal := .next (readReg .xend s)

/-- Read YEND (R132). -/
def execRYend (s : State) : Host.Outcome State Fault Refusal := .next (readReg .yend s)

/-- Read YEND at the GO alias (R132, R130). -/
def execRaYend (s : State) : Host.Outcome State Fault Refusal := .next (readReg .yend s)

/-- Read XYSTARTI (R132, R28). -/
def execRXystarti (s : State) : Host.Outcome State Fault Refusal := .next (reply32 s.xystarti s)

/-- Read XYSTARTI at the GO alias (R132, R28, R130). -/
def execRaXystarti (s : State) : Host.Outcome State Fault Refusal := .next (reply32 s.xystarti s)

/-- Read XYENDI (R132, R28). -/
def execRXyendi (s : State) : Host.Outcome State Fault Refusal := .next (reply32 s.xyendi s)

/-- Read XYENDI at the GO alias (R132, R28, R130). -/
def execRaXyendi (s : State) : Host.Outcome State Fault Refusal := .next (reply32 s.xyendi s)

/-- Read XYMOVE (R132). -/
def execRXymove (s : State) : Host.Outcome State Fault Refusal := .next (readReg .xymove s)

/-- Read XYMOVE at the GO alias (R132, R130). -/
def execRaXymove (s : State) : Host.Outcome State Fault Refusal := .next (readReg .xymove s)

/-- Read CLIPMIN (R132). -/
def execRClipmin (s : State) : Host.Outcome State Fault Refusal := .next (readReg .clipmin s)

/-- Read CLIPMIN at the GO alias (R132, R130). -/
def execRaClipmin (s : State) : Host.Outcome State Fault Refusal := .next (readReg .clipmin s)

/-- Read CLIPMAX (R132). -/
def execRClipmax (s : State) : Host.Outcome State Fault Refusal := .next (readReg .clipmax s)

/-- Read CLIPMAX at the GO alias (R132, R130). -/
def execRaClipmax (s : State) : Host.Outcome State Fault Refusal := .next (readReg .clipmax s)

/-- Read RED (R132). -/
def execRRed (s : State) : Host.Outcome State Fault Refusal := .next (readReg .red s)

/-- Read RED at the GO alias (R132, R130). -/
def execRaRed (s : State) : Host.Outcome State Fault Refusal := .next (readReg .red s)

/-- Read GREEN (R132). -/
def execRGreen (s : State) : Host.Outcome State Fault Refusal := .next (readReg .green s)

/-- Read GREEN at the GO alias (R132, R130). -/
def execRaGreen (s : State) : Host.Outcome State Fault Refusal := .next (readReg .green s)

/-- Read BLUE (R132). -/
def execRBlue (s : State) : Host.Outcome State Fault Refusal := .next (readReg .blue s)

/-- Read BLUE at the GO alias (R132, R130). -/
def execRaBlue (s : State) : Host.Outcome State Fault Refusal := .next (readReg .blue s)

/-- Read ALPHA (R132). -/
def execRAlpha (s : State) : Host.Outcome State Fault Refusal := .next (readReg .alpha s)

/-- Read ALPHA at the GO alias (R132, R130). -/
def execRaAlpha (s : State) : Host.Outcome State Fault Refusal := .next (readReg .alpha s)

/-- Read ZACC (R132). -/
def execRZacc (s : State) : Host.Outcome State Fault Refusal := .next (readReg .zacc s)

/-- Read ZACC at the GO alias (R132, R130). -/
def execRaZacc (s : State) : Host.Outcome State Fault Refusal := .next (readReg .zacc s)

/-- Read SLOPE_R (R132). -/
def execRSlopeR (s : State) : Host.Outcome State Fault Refusal := .next (readReg .slopeR s)

/-- Read SLOPE_R at the GO alias (R132, R130). -/
def execRaSlopeR (s : State) : Host.Outcome State Fault Refusal := .next (readReg .slopeR s)

/-- Read SLOPE_G (R132). -/
def execRSlopeG (s : State) : Host.Outcome State Fault Refusal := .next (readReg .slopeG s)

/-- Read SLOPE_G at the GO alias (R132, R130). -/
def execRaSlopeG (s : State) : Host.Outcome State Fault Refusal := .next (readReg .slopeG s)

/-- Read SLOPE_B (R132). -/
def execRSlopeB (s : State) : Host.Outcome State Fault Refusal := .next (readReg .slopeB s)

/-- Read SLOPE_B at the GO alias (R132, R130). -/
def execRaSlopeB (s : State) : Host.Outcome State Fault Refusal := .next (readReg .slopeB s)

/-- Read SLOPE_A (R132). -/
def execRSlopeA (s : State) : Host.Outcome State Fault Refusal := .next (readReg .slopeA s)

/-- Read SLOPE_A at the GO alias (R132, R130). -/
def execRaSlopeA (s : State) : Host.Outcome State Fault Refusal := .next (readReg .slopeA s)

/-- Read SLOPE_Z (R132). -/
def execRSlopeZ (s : State) : Host.Outcome State Fault Refusal := .next (readReg .slopeZ s)

/-- Read SLOPE_Z at the GO alias (R132, R130). -/
def execRaSlopeZ (s : State) : Host.Outcome State Fault Refusal := .next (readReg .slopeZ s)

/-- Read STIPX0 (R132). -/
def execRStipx0 (s : State) : Host.Outcome State Fault Refusal := .next (readReg .stipx0 s)

/-- Read STIPX0 at the GO alias (R132, R130). -/
def execRaStipx0 (s : State) : Host.Outcome State Fault Refusal := .next (readReg .stipx0 s)

/-- Read STIPX1 (R132). -/
def execRStipx1 (s : State) : Host.Outcome State Fault Refusal := .next (readReg .stipx1 s)

/-- Read STIPX1 at the GO alias (R132, R130). -/
def execRaStipx1 (s : State) : Host.Outcome State Fault Refusal := .next (readReg .stipx1 s)

/-- Read STIPX2 (R132). -/
def execRStipx2 (s : State) : Host.Outcome State Fault Refusal := .next (readReg .stipx2 s)

/-- Read STIPX2 at the GO alias (R132, R130). -/
def execRaStipx2 (s : State) : Host.Outcome State Fault Refusal := .next (readReg .stipx2 s)

/-- Read STIPX3 (R132). -/
def execRStipx3 (s : State) : Host.Outcome State Fault Refusal := .next (readReg .stipx3 s)

/-- Read STIPX3 at the GO alias (R132, R130). -/
def execRaStipx3 (s : State) : Host.Outcome State Fault Refusal := .next (readReg .stipx3 s)

/-- Read STIPX4 (R132). -/
def execRStipx4 (s : State) : Host.Outcome State Fault Refusal := .next (readReg .stipx4 s)

/-- Read STIPX4 at the GO alias (R132, R130). -/
def execRaStipx4 (s : State) : Host.Outcome State Fault Refusal := .next (readReg .stipx4 s)

/-- Read STIPY0 (R132). -/
def execRStipy0 (s : State) : Host.Outcome State Fault Refusal := .next (readReg .stipy0 s)

/-- Read STIPY0 at the GO alias (R132, R130). -/
def execRaStipy0 (s : State) : Host.Outcome State Fault Refusal := .next (readReg .stipy0 s)

/-- Read STIPY1 (R132). -/
def execRStipy1 (s : State) : Host.Outcome State Fault Refusal := .next (readReg .stipy1 s)

/-- Read STIPY1 at the GO alias (R132, R130). -/
def execRaStipy1 (s : State) : Host.Outcome State Fault Refusal := .next (readReg .stipy1 s)

/-- Read STIPY2 (R132). -/
def execRStipy2 (s : State) : Host.Outcome State Fault Refusal := .next (readReg .stipy2 s)

/-- Read STIPY2 at the GO alias (R132, R130). -/
def execRaStipy2 (s : State) : Host.Outcome State Fault Refusal := .next (readReg .stipy2 s)

/-- Read STIPY3 (R132). -/
def execRStipy3 (s : State) : Host.Outcome State Fault Refusal := .next (readReg .stipy3 s)

/-- Read STIPY3 at the GO alias (R132, R130). -/
def execRaStipy3 (s : State) : Host.Outcome State Fault Refusal := .next (readReg .stipy3 s)

/-- Read STIPY4 (R132). -/
def execRStipy4 (s : State) : Host.Outcome State Fault Refusal := .next (readReg .stipy4 s)

/-- Read STIPY4 at the GO alias (R132, R130). -/
def execRaStipy4 (s : State) : Host.Outcome State Fault Refusal := .next (readReg .stipy4 s)

/-- Read BRES_ERR (R124). -/
def execRBresErr (s : State) : Host.Outcome State Fault Refusal := .next (readReg .bresErr s)

/-- Read BRES_ERR at the GO alias (R124, R130). -/
def execRaBresErr (s : State) : Host.Outcome State Fault Refusal := .next (readReg .bresErr s)

/-- Read BRES_INC1 (R124). -/
def execRBresInc1 (s : State) : Host.Outcome State Fault Refusal := .next (readReg .bresInc1 s)

/-- Read BRES_INC1 at the GO alias (R124, R130). -/
def execRaBresInc1 (s : State) : Host.Outcome State Fault Refusal := .next (readReg .bresInc1 s)

/-- Read BRES_INC2 (R124). -/
def execRBresInc2 (s : State) : Host.Outcome State Fault Refusal := .next (readReg .bresInc2 s)

/-- Read BRES_INC2 at the GO alias (R124, R130). -/
def execRaBresInc2 (s : State) : Host.Outcome State Fault Refusal := .next (readReg .bresInc2 s)

/-- Read BRES_COUNT (R124). -/
def execRBresCount (s : State) : Host.Outcome State Fault Refusal := .next (readReg .bresCount s)

/-- Read BRES_COUNT at the GO alias (R124, R130). -/
def execRaBresCount (s : State) : Host.Outcome State Fault Refusal := .next (readReg .bresCount s)

/-- Read BRES_OCTANT (R124). -/
def execRBresOctant (s : State) : Host.Outcome State Fault Refusal := .next (readReg .bresOctant s)

/-- Read BRES_OCTANT at the GO alias (R124, R130). -/
def execRaBresOctant (s : State) : Host.Outcome State Fault Refusal := .next (readReg .bresOctant s)

/-- Read CURXY (R124). -/
def execRCurxy (s : State) : Host.Outcome State Fault Refusal := .next (readReg .curxy s)

/-- Read CURXY at the GO alias (R124, R130). -/
def execRaCurxy (s : State) : Host.Outcome State Fault Refusal := .next (readReg .curxy s)

/-- Read STATUS (R122). -/
def execRStatus (s : State) : Host.Outcome State Fault Refusal := .next (reply32 (statusWord s) s)

/-- Read STATUS at the GO alias (R122, R130). -/
def execRaStatus (s : State) : Host.Outcome State Fault Refusal := .next (reply32 (statusWord s) s)

/-- Read DCBMODE (R132). -/
def execRDcbmode (s : State) : Host.Outcome State Fault Refusal := .next (readReg .dcbmode s)

/-- Read DCBMODE at the GO alias (R132, R130). -/
def execRaDcbmode (s : State) : Host.Outcome State Fault Refusal := .next (readReg .dcbmode s)

/-- Read DCBDATA0 (R126). -/
def execRDcbdata0 (s : State) : Host.Outcome State Fault Refusal := .next (readDcbdata0 s)

/-- Read DCBDATA0 at the GO alias (R126, R130). -/
def execRaDcbdata0 (s : State) : Host.Outcome State Fault Refusal := .next (readDcbdata0 s)

/-- Read DCBDATA1 (R132). -/
def execRDcbdata1 (s : State) : Host.Outcome State Fault Refusal := .next (readReg .dcbdata1 s)

/-- Read DCBDATA1 at the GO alias (R132, R130). -/
def execRaDcbdata1 (s : State) : Host.Outcome State Fault Refusal := .next (readReg .dcbdata1 s)

/-- Read HOSTDATA (R128). -/
def execR64Hostdata (s : State) : Host.Outcome State Fault Refusal := .next (readHostdata s)

/-- Read HOSTDATA at the GO alias (R128, R130). -/
def execR64aHostdata (s : State) : Host.Outcome State Fault Refusal := .next (readHostdata s)

end Sys2Proof.Machine
end

