-- ==== Sys2Proof/Machine/HostWrite.lean ====
section
/-! DEFINITION. The host writes (40_register_access.md R113): one meaning per row. `v` is the value, `m` the lane mask; with the mask 0
a write does nothing at all (R131). -/

namespace Sys2Proof.Machine

/-- Write DRAWMODE0 (R117). -/
def execWDrawmode0 (v m : W32) (s : State) : Host.Outcome State Fault Refusal := .next (whenMasked m (writeDrawmode0 v m) s)

/-- Write DRAWMODE1 (R118). -/
def execWDrawmode1 (v m : W32) (s : State) : Host.Outcome State Fault Refusal := .next (whenMasked m (writeDrawmode1 v m) s)

/-- Write WRMASK (R119). -/
def execWWrmask (v m : W32) (s : State) : Host.Outcome State Fault Refusal := .next (whenMasked m (writePlain .wrmask v m) s)

/-- Write COLORI (R119). -/
def execWColori (v m : W32) (s : State) : Host.Outcome State Fault Refusal := .next (whenMasked m (writePlain .colori v m) s)

/-- Write XSTART (R120). -/
def execWXstart (v m : W32) (s : State) : Host.Outcome State Fault Refusal := .next (whenMasked m (writeCoord .xstart v m) s)

/-- Write YSTART (R120). -/
def execWYstart (v m : W32) (s : State) : Host.Outcome State Fault Refusal := .next (whenMasked m (writeCoord .ystart v m) s)

/-- Write XEND (R120). -/
def execWXend (v m : W32) (s : State) : Host.Outcome State Fault Refusal := .next (whenMasked m (writeCoord .xend v m) s)

/-- Write YEND (R120). -/
def execWYend (v m : W32) (s : State) : Host.Outcome State Fault Refusal := .next (whenMasked m (writeCoord .yend v m) s)

/-- Write XYSTARTI (R121). -/
def execWXystarti (v m : W32) (s : State) : Host.Outcome State Fault Refusal := .next (whenMasked m (writeXystarti v m) s)

/-- Write XYENDI (R121). -/
def execWXyendi (v m : W32) (s : State) : Host.Outcome State Fault Refusal := .next (whenMasked m (writeXyendi v m) s)

/-- Write XYMOVE (R119). -/
def execWXymove (v m : W32) (s : State) : Host.Outcome State Fault Refusal := .next (whenMasked m (writePlain .xymove v m) s)

/-- Write CLIPMIN (R119). -/
def execWClipmin (v m : W32) (s : State) : Host.Outcome State Fault Refusal := .next (whenMasked m (writePlain .clipmin v m) s)

/-- Write CLIPMAX (R119). -/
def execWClipmax (v m : W32) (s : State) : Host.Outcome State Fault Refusal := .next (whenMasked m (writePlain .clipmax v m) s)

/-- Write RED (R119). -/
def execWRed (v m : W32) (s : State) : Host.Outcome State Fault Refusal := .next (whenMasked m (writePlain .red v m) s)

/-- Write GREEN (R119). -/
def execWGreen (v m : W32) (s : State) : Host.Outcome State Fault Refusal := .next (whenMasked m (writePlain .green v m) s)

/-- Write BLUE (R119). -/
def execWBlue (v m : W32) (s : State) : Host.Outcome State Fault Refusal := .next (whenMasked m (writePlain .blue v m) s)

/-- Write ALPHA (R119). -/
def execWAlpha (v m : W32) (s : State) : Host.Outcome State Fault Refusal := .next (whenMasked m (writePlain .alpha v m) s)

/-- Write ZACC (R119). -/
def execWZacc (v m : W32) (s : State) : Host.Outcome State Fault Refusal := .next (whenMasked m (writePlain .zacc v m) s)

/-- Write SLOPE_R (R119). -/
def execWSlopeR (v m : W32) (s : State) : Host.Outcome State Fault Refusal := .next (whenMasked m (writePlain .slopeR v m) s)

/-- Write SLOPE_G (R119). -/
def execWSlopeG (v m : W32) (s : State) : Host.Outcome State Fault Refusal := .next (whenMasked m (writePlain .slopeG v m) s)

/-- Write SLOPE_B (R119). -/
def execWSlopeB (v m : W32) (s : State) : Host.Outcome State Fault Refusal := .next (whenMasked m (writePlain .slopeB v m) s)

/-- Write SLOPE_A (R119). -/
def execWSlopeA (v m : W32) (s : State) : Host.Outcome State Fault Refusal := .next (whenMasked m (writePlain .slopeA v m) s)

/-- Write SLOPE_Z (R119). -/
def execWSlopeZ (v m : W32) (s : State) : Host.Outcome State Fault Refusal := .next (whenMasked m (writePlain .slopeZ v m) s)

/-- Write STIPX0 (R119). -/
def execWStipx0 (v m : W32) (s : State) : Host.Outcome State Fault Refusal := .next (whenMasked m (writePlain .stipx0 v m) s)

/-- Write STIPX1 (R119). -/
def execWStipx1 (v m : W32) (s : State) : Host.Outcome State Fault Refusal := .next (whenMasked m (writePlain .stipx1 v m) s)

/-- Write STIPX2 (R119). -/
def execWStipx2 (v m : W32) (s : State) : Host.Outcome State Fault Refusal := .next (whenMasked m (writePlain .stipx2 v m) s)

/-- Write STIPX3 (R119). -/
def execWStipx3 (v m : W32) (s : State) : Host.Outcome State Fault Refusal := .next (whenMasked m (writePlain .stipx3 v m) s)

/-- Write STIPX4 (R119). -/
def execWStipx4 (v m : W32) (s : State) : Host.Outcome State Fault Refusal := .next (whenMasked m (writePlain .stipx4 v m) s)

/-- Write STIPY0 (R119). -/
def execWStipy0 (v m : W32) (s : State) : Host.Outcome State Fault Refusal := .next (whenMasked m (writePlain .stipy0 v m) s)

/-- Write STIPY1 (R119). -/
def execWStipy1 (v m : W32) (s : State) : Host.Outcome State Fault Refusal := .next (whenMasked m (writePlain .stipy1 v m) s)

/-- Write STIPY2 (R119). -/
def execWStipy2 (v m : W32) (s : State) : Host.Outcome State Fault Refusal := .next (whenMasked m (writePlain .stipy2 v m) s)

/-- Write STIPY3 (R119). -/
def execWStipy3 (v m : W32) (s : State) : Host.Outcome State Fault Refusal := .next (whenMasked m (writePlain .stipy3 v m) s)

/-- Write STIPY4 (R119). -/
def execWStipy4 (v m : W32) (s : State) : Host.Outcome State Fault Refusal := .next (whenMasked m (writePlain .stipy4 v m) s)

/-- Write BRES_ERR: read-only, ignored (R116). -/
def execWBresErr (_v m : W32) (s : State) : Host.Outcome State Fault Refusal := .next (whenMasked m (writeIgnored) s)

/-- Write BRES_INC1: read-only, ignored (R116). -/
def execWBresInc1 (_v m : W32) (s : State) : Host.Outcome State Fault Refusal := .next (whenMasked m (writeIgnored) s)

/-- Write BRES_INC2: read-only, ignored (R116). -/
def execWBresInc2 (_v m : W32) (s : State) : Host.Outcome State Fault Refusal := .next (whenMasked m (writeIgnored) s)

/-- Write BRES_COUNT: read-only, ignored (R116). -/
def execWBresCount (_v m : W32) (s : State) : Host.Outcome State Fault Refusal := .next (whenMasked m (writeIgnored) s)

/-- Write BRES_OCTANT: read-only, ignored (R116). -/
def execWBresOctant (_v m : W32) (s : State) : Host.Outcome State Fault Refusal := .next (whenMasked m (writeIgnored) s)

/-- Write CURXY: read-only, ignored (R116). -/
def execWCurxy (_v m : W32) (s : State) : Host.Outcome State Fault Refusal := .next (whenMasked m (writeIgnored) s)

/-- Write STATUS (R123). -/
def execWStatus (v m : W32) (s : State) : Host.Outcome State Fault Refusal := .next (whenMasked m (writeStatus v m) s)

/-- Write DCBMODE (R119). -/
def execWDcbmode (v m : W32) (s : State) : Host.Outcome State Fault Refusal := .next (whenMasked m (writeDcbmode v m) s)

/-- Write DCBDATA0 (R125). -/
def execWDcbdata0 (v m : W32) (s : State) : Host.Outcome State Fault Refusal := .next (whenMasked m (writeDcbdata0 v m) s)

/-- Write DCBDATA1 (R119). -/
def execWDcbdata1 (v m : W32) (s : State) : Host.Outcome State Fault Refusal := .next (whenMasked m (writePlain .dcbdata1 v m) s)

/-- Write HOSTDATA (R127). -/
def execW64Hostdata (v m : W64) (s : State) : Host.Outcome State Fault Refusal := .next (whenMasked m (writeHostdata v m) s)

end Sys2Proof.Machine
end

