-- ==== Sys2Proof/Machine/Timing.lean ====
section
/-! DEFINITION. The timing generator's tables, its lazy decode, the DID entries, the cursor and the scanline composition
(47_timing_cursor.md sections 2 to 6), with the mode resolution they use (45_pixel_mode_resolver.md section 2). -/

namespace Sys2Proof.Machine

/-! ## Timing tables and the decode pass -/

/-- The walk of one timing table (R298), at most `fuel` pairs: `a` is the pair's address, `pos` the first line or pixel of its
run, `acc` the first and last visible position so far. -/
def axisWalk (s : State) (fuel a pos : Nat) (acc : Option (Nat × Nat)) : Option (Nat × Nat) :=
  match fuel with
  | 0 => acc
  | k + 1 =>
    let len := (tramRead s a).toNat
    let attr := tramRead s ((a + 1) % s.par.tramWords)
    if len = 0 then acc
    else
      let here := if attr.getLsbD 15 then
          match acc with
          | none => some (pos, pos + len - 1)
          | some (first, _) => some (first, pos + len - 1)
        else acc
      axisWalk s k ((a + 2) % s.par.tramWords) (pos + len) here

/-- `decode_axis(ptr)` (R298); none where no run is visible. -/
def decodeAxis (s : State) (ptr : W16) : Option (Nat × Nat) :=
  axisWalk s (s.par.tramWords / 2) (ptr.toNat % s.par.tramWords) 0 none

/-- `decode()`: the active window the tables describe (R299). -/
def decodeWindow (s : State) : Window :=
  match decodeAxis s s.tg.vtFramePtr, decodeAxis s s.tg.vtLinePtr with
  | some (y0, y1), some (x0, x1) => { x0 := x0, y0 := y0, x1 := x1, y1 := y1 }
  | _, _ => Window.empty

/-- `ensure_decoded()`: where dirty, decode, return to Idle and emit TIMING_CHANGED (R300). -/
def ensureDecoded (s : State) : State :=
  if s.tg.dirty then (s.setTg { s.tg with win := decodeWindow s, dirty := false }).emit .timingChanged else s

/-! ## Display-identifier entries -/

/-- The TRAM address of scanline y's entry list (R305, R306). -/
def didListAddr (s : State) (y : Int) : Nat :=
  (tramRead s ((s.tg.didFramePtr.toNat + y) % s.par.tramWords).toNat).toNat % s.par.tramWords

/-- The word that ends an entry list (R305). -/
def didEnd : W16 := 0xFFFF

/-- An entry word's XSTART, bits 15:5 (R305). -/
def didXstart (w : W16) : BitVec 11 := w.extractLsb' 5 11

/-- An entry word's DID, bits 4:0 (R305). -/
def didIndex (w : W16) : BitVec 5 := w.extractLsb' 0 5

/-- `next_did_line_entry()` (R307): the entry under the line cursor, or NONE. -/
def nextDidEntry (s : State) : State :=
  if s.tg.lcEnd then s.emit (.didEntry none)
  else
    let w := tramRead s s.tg.lc
    if w = didEnd then (s.setTg { s.tg with lcEnd := true }).emit (.didEntry none)
    else (s.setTg { s.tg with lc := (s.tg.lc + 1) % s.par.tramWords }).emit (.didEntry (some (didXstart w, didIndex w)))

/-- The scanlines that have a line pointer of their own, 0 to 65535 (R306). -/
def scanlineOk (y : Nat) : Bool := decide (y ≤ 65535)

/-- The line cursor restarts at TRAM word `a` and gives the first entry there (R306). -/
def openLine (a : Nat) (s : State) : State := nextDidEntry (s.setTg { s.tg with lc := a, lcEnd := false })

/-- `begin_did_line(y)` (R306): the decode, the vertical-interrupt check, then the line cursor restarts at scanline y's list.
Beyond scanline 65535 the spec states no line pointer: that one value is a free draw (log 23). -/
def beginLine (y : Nat) (s : State) : State :=
  let s := vintCheck y (ensureDecoded s)
  if s.didEn then
    if scanlineOk y then openLine (didListAddr s y) s
    else openLine ((Config.linePointer s.lineDraws).toNat % s.par.tramWords) (s.setLineDraws (s.lineDraws + 1))
  else (s.setTg { s.tg with lcEnd := true }).emit (.didEntry none)

/-- The walk of an entry list for pixel x (R308), at most `fuel` words: `d` is the DID of the last entry at or left of x. -/
def didWalk (s : State) (x : Int) (fuel a : Nat) (d : BitVec 5) : BitVec 5 :=
  match fuel with
  | 0 => d
  | k + 1 =>
    let w := tramRead s a
    if w = didEnd then d
    else didWalk s x k ((a + 1) % s.par.tramWords) (if (didXstart w).toNat ≤ x then didIndex w else d)

/-- `did_for(y, x)` (R308): 0 where DID_EN is clear; it reads no hidden state. -/
def didAt (s : State) (y x : Int) : BitVec 5 :=
  if s.didEn then didWalk s x s.par.tramWords (didListAddr s y) 0 else 0

/-! ## Pixel modes (45_pixel_mode_resolver.md) -/

/-- `is_8bpp()` (R253). -/
def is8bppNow (s : State) : Bool := s.pmr0.config.getLsbD 0

/-- The mode-table entry the display reads: PMR[0].MODE[j mod 32] (R257). -/
def modeAt (s : State) (j : Nat) : W8 := modeTableEntry s .zero j

/-- An entry's BANK, bits 7:3 (R43). -/
def modeBank (e : W8) : BitVec 5 := e.extractLsb' 3 5

/-- An entry's CMAP, bit 2 (R43). -/
def modeCmap (e : W8) : Bool := e.getLsbD 2

/-- An entry's DEPTHCLASS, bits 1:0 (R43). -/
def modeDepth (e : W8) : BitVec 2 := e.extractLsb' 0 2

/-- Entry `v` of a colormap bank: CLUT[DISPLAY_CLUT].T[((bank << 8) + v) mod CLUT_ENTRIES] (R255, R259, R315, R327). -/
def bankColour (s : State) (bank : BitVec 5) (v : Nat) : W24 := clutEntry s displayClut (bank.toNat * 256 + v)

/-- `resolve(j, c)`: the display colour of primary cell `c` under mode `j`, in RGB order (R259). -/
def resolve (s : State) (j : BitVec 5) (c : W32) : W24 :=
  let e := modeAt s j.toNat
  let k := Depth.ofBits (modeDepth e)
  let v := c &&& ones k.db
  let v := if is8bppNow s then v &&& 0xFF else v
  if modeCmap e then bankColour s (modeBank e) v.toNat
  else
    let q := expand k v
    q.r ++ q.g ++ q.b

/-! ## Cursor -/

/-- `glyph_hit(x, y)` (R313): the bit of the S x S bitmap, clear outside the footprint. -/
def glyphHit (s : State) (x y : Int) : Bool :=
  let size := s.cursorSize
  let c := x - s.cursorPosX
  let r := y - s.cursorPosY
  if 0 ≤ c ∧ c < size ∧ 0 ≤ r ∧ r < size then
    (tramRead s (s.tg.cursorGlyphPtr.toNat + r.toNat * (size / 16) + c.toNat / 16)).getLsbD (15 - c.toNat % 16)
  else false

/-- `cross_hit(x, y)` (R314): on the cursor's own row or column, within the centred footprint. -/
def crossHit (s : State) (x y : Int) : Bool :=
  let h : Int := s.cursorSize / 2
  let cx := s.cursorPosX
  let cy := s.cursorPosY
  if cx - h ≤ x ∧ x < cx + h ∧ cy - h ≤ y ∧ y < cy + h then decide (x = cx) || decide (y = cy) else false

/-- `cursor_colour()`: entry 1 of the cursor's colormap bank (R315). -/
def cursorColour (s : State) : W24 := bankColour s s.pmr0.cursorCmap 1

/-- `get_cursor_pixel(x, y)`: the cursor's colour, or NO_CURSOR (R312). -/
def cursorAt (s : State) (x y : Int) : Option W24 :=
  if s.cursorEn then
    if (if s.cursorCross then crossHit s x y else glyphHit s x y) then some (cursorColour s) else none
  else none

/-! ## Composition -/

/-- The displayed colour at (x, y) of a decoded state (R323): black outside the window, then the cursor, the pop-up plane, the
primary plane through its DID's mode (R326, R327). -/
def pixelAt (s : State) (x y : Int) : W24 :=
  let w := s.tg.win
  if 0 ≤ x ∧ x ≤ w.x1 - w.x0 ∧ 0 ≤ y ∧ y ≤ w.y1 - w.y0 then
    match cursorAt s x y with
    | some rgb => rgb
    | none =>
      let pv := planeRead s .popup x y &&& 0x3
      if pv ≠ 0 then bankColour s s.pmr0.popupCmap pv.toNat
      else resolve s (didAt s y x) (planeRead s .primary x y)
  else 0

/-- `palette_base(c)`: the whole table, entry 0 first (R280, log 14). -/
def paletteOf (s : State) (c : Inst) : List W24 := (List.range s.par.clutEntries).map (clutEntry s c)

end Sys2Proof.Machine
end

