-- ==== Sys2Proof/Machine/Queries.lean ====
section
/-! DEFINITION. The queries of the display-refresh collaborator (47_timing_cursor.md, 45_pixel_mode_resolver.md section 2,
46_color_lookup.md R280): one meaning per row. A query that reads the decoded window decodes it first where it is dirty
(R300). -/

namespace Sys2Proof.Machine

/-- `readout_x0()` (R301). -/
def execReadoutX0 (s : State) : Host.Outcome State Fault Refusal :=
  let t := ensureDecoded s
  .next (t.emit (.readout t.tg.win.x0))

/-- `readout_y0()` (R301). -/
def execReadoutY0 (s : State) : Host.Outcome State Fault Refusal :=
  let t := ensureDecoded s
  .next (t.emit (.readout t.tg.win.y0))

/-- `readout_x1()` (R301). -/
def execReadoutX1 (s : State) : Host.Outcome State Fault Refusal :=
  let t := ensureDecoded s
  .next (t.emit (.readout t.tg.win.x1))

/-- `readout_y1()` (R301). -/
def execReadoutY1 (s : State) : Host.Outcome State Fault Refusal :=
  let t := ensureDecoded s
  .next (t.emit (.readout t.tg.win.y1))

/-- `begin_did_line(y)` (R306). -/
def execBeginDidLine (y : Nat) (s : State) : Host.Outcome State Fault Refusal := .next (beginLine y s)

/-- `next_did_line_entry()` (R307). -/
def execNextDidLineEntry (s : State) : Host.Outcome State Fault Refusal := .next (nextDidEntry s)

/-- `did_for(y, x)` (R308). -/
def execDidFor (y x : Int) (s : State) : Host.Outcome State Fault Refusal := .next (s.emit (.did (didAt s y x)))

/-- `get_cursor_pixel(x, y)` (R312). -/
def execGetCursorPixel (x y : Int) (s : State) : Host.Outcome State Fault Refusal :=
  .next (s.emit (.cursor (cursorAt s x y)))

/-- `display_pixel(x, y)` (R323). -/
def execDisplayPixel (x y : Int) (s : State) : Host.Outcome State Fault Refusal :=
  let t := ensureDecoded s
  .next (t.emit (.pixel (pixelAt t x y)))

/-- `palette_base(c)` (R280), for the two instances there are (R271); another is refused by name (log 11). -/
def execPaletteBase (c : Nat) (s : State) : Host.Outcome State Fault Refusal :=
  match c with
  | 0 => .next (s.emit (.palette (paletteOf s .zero)))
  | 1 => .next (s.emit (.palette (paletteOf s .one)))
  | _ => .refused (.noSuchClut c)

/-- `is_8bpp()` (R253). -/
def execIs8bpp (s : State) : Host.Outcome State Fault Refusal := .next (s.emit (.flag (is8bppNow s)))

/-- `mode_entry(j)` (R257), decoded into its three fields (R43). -/
def execModeEntry (j : Nat) (s : State) : Host.Outcome State Fault Refusal :=
  let e := modeAt s j
  .next (s.emit (.modeEntry (modeBank e) (modeCmap e) (modeDepth e)))

/-- `cursor_cmap()` (R255). -/
def execCursorCmap (s : State) : Host.Outcome State Fault Refusal := .next (s.emit (.bank s.pmr0.cursorCmap))

/-- `popup_cmap()` (R255). -/
def execPopupCmap (s : State) : Host.Outcome State Fault Refusal := .next (s.emit (.bank s.pmr0.popupCmap))

end Sys2Proof.Machine
end

