-- ==== Sys2Proof/Machine/Dispatch.lean ====
section
/-! DEFINITION. What each instruction does: one arm per constructor, each one direct call of its meaning. -/

namespace Sys2Proof.Machine

def exec (i : Instr) (s : State) : Host.Outcome State Fault Refusal :=
  match i with
  | .rDrawmode0 => Sys2Proof.Machine.execRDrawmode0 s
  | .raDrawmode0 => Sys2Proof.Machine.execRaDrawmode0 s
  | .wDrawmode0 v m => Sys2Proof.Machine.execWDrawmode0 v m s
  | .gDrawmode0 v m => Sys2Proof.Machine.execGDrawmode0 v m s
  | .rDrawmode1 => Sys2Proof.Machine.execRDrawmode1 s
  | .raDrawmode1 => Sys2Proof.Machine.execRaDrawmode1 s
  | .wDrawmode1 v m => Sys2Proof.Machine.execWDrawmode1 v m s
  | .gDrawmode1 v m => Sys2Proof.Machine.execGDrawmode1 v m s
  | .rWrmask => Sys2Proof.Machine.execRWrmask s
  | .raWrmask => Sys2Proof.Machine.execRaWrmask s
  | .wWrmask v m => Sys2Proof.Machine.execWWrmask v m s
  | .gWrmask v m => Sys2Proof.Machine.execGWrmask v m s
  | .rColori => Sys2Proof.Machine.execRColori s
  | .raColori => Sys2Proof.Machine.execRaColori s
  | .wColori v m => Sys2Proof.Machine.execWColori v m s
  | .gColori v m => Sys2Proof.Machine.execGColori v m s
  | .rXstart => Sys2Proof.Machine.execRXstart s
  | .raXstart => Sys2Proof.Machine.execRaXstart s
  | .wXstart v m => Sys2Proof.Machine.execWXstart v m s
  | .gXstart v m => Sys2Proof.Machine.execGXstart v m s
  | .rYstart => Sys2Proof.Machine.execRYstart s
  | .raYstart => Sys2Proof.Machine.execRaYstart s
  | .wYstart v m => Sys2Proof.Machine.execWYstart v m s
  | .gYstart v m => Sys2Proof.Machine.execGYstart v m s
  | .rXend => Sys2Proof.Machine.execRXend s
  | .raXend => Sys2Proof.Machine.execRaXend s
  | .wXend v m => Sys2Proof.Machine.execWXend v m s
  | .gXend v m => Sys2Proof.Machine.execGXend v m s
  | .rYend => Sys2Proof.Machine.execRYend s
  | .raYend => Sys2Proof.Machine.execRaYend s
  | .wYend v m => Sys2Proof.Machine.execWYend v m s
  | .gYend v m => Sys2Proof.Machine.execGYend v m s
  | .rXystarti => Sys2Proof.Machine.execRXystarti s
  | .raXystarti => Sys2Proof.Machine.execRaXystarti s
  | .wXystarti v m => Sys2Proof.Machine.execWXystarti v m s
  | .gXystarti v m => Sys2Proof.Machine.execGXystarti v m s
  | .rXyendi => Sys2Proof.Machine.execRXyendi s
  | .raXyendi => Sys2Proof.Machine.execRaXyendi s
  | .wXyendi v m => Sys2Proof.Machine.execWXyendi v m s
  | .gXyendi v m => Sys2Proof.Machine.execGXyendi v m s
  | .rXymove => Sys2Proof.Machine.execRXymove s
  | .raXymove => Sys2Proof.Machine.execRaXymove s
  | .wXymove v m => Sys2Proof.Machine.execWXymove v m s
  | .gXymove v m => Sys2Proof.Machine.execGXymove v m s
  | .rClipmin => Sys2Proof.Machine.execRClipmin s
  | .raClipmin => Sys2Proof.Machine.execRaClipmin s
  | .wClipmin v m => Sys2Proof.Machine.execWClipmin v m s
  | .gClipmin v m => Sys2Proof.Machine.execGClipmin v m s
  | .rClipmax => Sys2Proof.Machine.execRClipmax s
  | .raClipmax => Sys2Proof.Machine.execRaClipmax s
  | .wClipmax v m => Sys2Proof.Machine.execWClipmax v m s
  | .gClipmax v m => Sys2Proof.Machine.execGClipmax v m s
  | .rRed => Sys2Proof.Machine.execRRed s
  | .raRed => Sys2Proof.Machine.execRaRed s
  | .wRed v m => Sys2Proof.Machine.execWRed v m s
  | .gRed v m => Sys2Proof.Machine.execGRed v m s
  | .rGreen => Sys2Proof.Machine.execRGreen s
  | .raGreen => Sys2Proof.Machine.execRaGreen s
  | .wGreen v m => Sys2Proof.Machine.execWGreen v m s
  | .gGreen v m => Sys2Proof.Machine.execGGreen v m s
  | .rBlue => Sys2Proof.Machine.execRBlue s
  | .raBlue => Sys2Proof.Machine.execRaBlue s
  | .wBlue v m => Sys2Proof.Machine.execWBlue v m s
  | .gBlue v m => Sys2Proof.Machine.execGBlue v m s
  | .rAlpha => Sys2Proof.Machine.execRAlpha s
  | .raAlpha => Sys2Proof.Machine.execRaAlpha s
  | .wAlpha v m => Sys2Proof.Machine.execWAlpha v m s
  | .gAlpha v m => Sys2Proof.Machine.execGAlpha v m s
  | .rZacc => Sys2Proof.Machine.execRZacc s
  | .raZacc => Sys2Proof.Machine.execRaZacc s
  | .wZacc v m => Sys2Proof.Machine.execWZacc v m s
  | .gZacc v m => Sys2Proof.Machine.execGZacc v m s
  | .rSlopeR => Sys2Proof.Machine.execRSlopeR s
  | .raSlopeR => Sys2Proof.Machine.execRaSlopeR s
  | .wSlopeR v m => Sys2Proof.Machine.execWSlopeR v m s
  | .gSlopeR v m => Sys2Proof.Machine.execGSlopeR v m s
  | .rSlopeG => Sys2Proof.Machine.execRSlopeG s
  | .raSlopeG => Sys2Proof.Machine.execRaSlopeG s
  | .wSlopeG v m => Sys2Proof.Machine.execWSlopeG v m s
  | .gSlopeG v m => Sys2Proof.Machine.execGSlopeG v m s
  | .rSlopeB => Sys2Proof.Machine.execRSlopeB s
  | .raSlopeB => Sys2Proof.Machine.execRaSlopeB s
  | .wSlopeB v m => Sys2Proof.Machine.execWSlopeB v m s
  | .gSlopeB v m => Sys2Proof.Machine.execGSlopeB v m s
  | .rSlopeA => Sys2Proof.Machine.execRSlopeA s
  | .raSlopeA => Sys2Proof.Machine.execRaSlopeA s
  | .wSlopeA v m => Sys2Proof.Machine.execWSlopeA v m s
  | .gSlopeA v m => Sys2Proof.Machine.execGSlopeA v m s
  | .rSlopeZ => Sys2Proof.Machine.execRSlopeZ s
  | .raSlopeZ => Sys2Proof.Machine.execRaSlopeZ s
  | .wSlopeZ v m => Sys2Proof.Machine.execWSlopeZ v m s
  | .gSlopeZ v m => Sys2Proof.Machine.execGSlopeZ v m s
  | .rStipx0 => Sys2Proof.Machine.execRStipx0 s
  | .raStipx0 => Sys2Proof.Machine.execRaStipx0 s
  | .wStipx0 v m => Sys2Proof.Machine.execWStipx0 v m s
  | .gStipx0 v m => Sys2Proof.Machine.execGStipx0 v m s
  | .rStipx1 => Sys2Proof.Machine.execRStipx1 s
  | .raStipx1 => Sys2Proof.Machine.execRaStipx1 s
  | .wStipx1 v m => Sys2Proof.Machine.execWStipx1 v m s
  | .gStipx1 v m => Sys2Proof.Machine.execGStipx1 v m s
  | .rStipx2 => Sys2Proof.Machine.execRStipx2 s
  | .raStipx2 => Sys2Proof.Machine.execRaStipx2 s
  | .wStipx2 v m => Sys2Proof.Machine.execWStipx2 v m s
  | .gStipx2 v m => Sys2Proof.Machine.execGStipx2 v m s
  | .rStipx3 => Sys2Proof.Machine.execRStipx3 s
  | .raStipx3 => Sys2Proof.Machine.execRaStipx3 s
  | .wStipx3 v m => Sys2Proof.Machine.execWStipx3 v m s
  | .gStipx3 v m => Sys2Proof.Machine.execGStipx3 v m s
  | .rStipx4 => Sys2Proof.Machine.execRStipx4 s
  | .raStipx4 => Sys2Proof.Machine.execRaStipx4 s
  | .wStipx4 v m => Sys2Proof.Machine.execWStipx4 v m s
  | .gStipx4 v m => Sys2Proof.Machine.execGStipx4 v m s
  | .rStipy0 => Sys2Proof.Machine.execRStipy0 s
  | .raStipy0 => Sys2Proof.Machine.execRaStipy0 s
  | .wStipy0 v m => Sys2Proof.Machine.execWStipy0 v m s
  | .gStipy0 v m => Sys2Proof.Machine.execGStipy0 v m s
  | .rStipy1 => Sys2Proof.Machine.execRStipy1 s
  | .raStipy1 => Sys2Proof.Machine.execRaStipy1 s
  | .wStipy1 v m => Sys2Proof.Machine.execWStipy1 v m s
  | .gStipy1 v m => Sys2Proof.Machine.execGStipy1 v m s
  | .rStipy2 => Sys2Proof.Machine.execRStipy2 s
  | .raStipy2 => Sys2Proof.Machine.execRaStipy2 s
  | .wStipy2 v m => Sys2Proof.Machine.execWStipy2 v m s
  | .gStipy2 v m => Sys2Proof.Machine.execGStipy2 v m s
  | .rStipy3 => Sys2Proof.Machine.execRStipy3 s
  | .raStipy3 => Sys2Proof.Machine.execRaStipy3 s
  | .wStipy3 v m => Sys2Proof.Machine.execWStipy3 v m s
  | .gStipy3 v m => Sys2Proof.Machine.execGStipy3 v m s
  | .rStipy4 => Sys2Proof.Machine.execRStipy4 s
  | .raStipy4 => Sys2Proof.Machine.execRaStipy4 s
  | .wStipy4 v m => Sys2Proof.Machine.execWStipy4 v m s
  | .gStipy4 v m => Sys2Proof.Machine.execGStipy4 v m s
  | .rBresErr => Sys2Proof.Machine.execRBresErr s
  | .raBresErr => Sys2Proof.Machine.execRaBresErr s
  | .wBresErr v m => Sys2Proof.Machine.execWBresErr v m s
  | .gBresErr v m => Sys2Proof.Machine.execGBresErr v m s
  | .rBresInc1 => Sys2Proof.Machine.execRBresInc1 s
  | .raBresInc1 => Sys2Proof.Machine.execRaBresInc1 s
  | .wBresInc1 v m => Sys2Proof.Machine.execWBresInc1 v m s
  | .gBresInc1 v m => Sys2Proof.Machine.execGBresInc1 v m s
  | .rBresInc2 => Sys2Proof.Machine.execRBresInc2 s
  | .raBresInc2 => Sys2Proof.Machine.execRaBresInc2 s
  | .wBresInc2 v m => Sys2Proof.Machine.execWBresInc2 v m s
  | .gBresInc2 v m => Sys2Proof.Machine.execGBresInc2 v m s
  | .rBresCount => Sys2Proof.Machine.execRBresCount s
  | .raBresCount => Sys2Proof.Machine.execRaBresCount s
  | .wBresCount v m => Sys2Proof.Machine.execWBresCount v m s
  | .gBresCount v m => Sys2Proof.Machine.execGBresCount v m s
  | .rBresOctant => Sys2Proof.Machine.execRBresOctant s
  | .raBresOctant => Sys2Proof.Machine.execRaBresOctant s
  | .wBresOctant v m => Sys2Proof.Machine.execWBresOctant v m s
  | .gBresOctant v m => Sys2Proof.Machine.execGBresOctant v m s
  | .rCurxy => Sys2Proof.Machine.execRCurxy s
  | .raCurxy => Sys2Proof.Machine.execRaCurxy s
  | .wCurxy v m => Sys2Proof.Machine.execWCurxy v m s
  | .gCurxy v m => Sys2Proof.Machine.execGCurxy v m s
  | .rStatus => Sys2Proof.Machine.execRStatus s
  | .raStatus => Sys2Proof.Machine.execRaStatus s
  | .wStatus v m => Sys2Proof.Machine.execWStatus v m s
  | .gStatus v m => Sys2Proof.Machine.execGStatus v m s
  | .rDcbmode => Sys2Proof.Machine.execRDcbmode s
  | .raDcbmode => Sys2Proof.Machine.execRaDcbmode s
  | .wDcbmode v m => Sys2Proof.Machine.execWDcbmode v m s
  | .gDcbmode v m => Sys2Proof.Machine.execGDcbmode v m s
  | .rDcbdata0 => Sys2Proof.Machine.execRDcbdata0 s
  | .raDcbdata0 => Sys2Proof.Machine.execRaDcbdata0 s
  | .wDcbdata0 v m => Sys2Proof.Machine.execWDcbdata0 v m s
  | .gDcbdata0 v m => Sys2Proof.Machine.execGDcbdata0 v m s
  | .rDcbdata1 => Sys2Proof.Machine.execRDcbdata1 s
  | .raDcbdata1 => Sys2Proof.Machine.execRaDcbdata1 s
  | .wDcbdata1 v m => Sys2Proof.Machine.execWDcbdata1 v m s
  | .gDcbdata1 v m => Sys2Proof.Machine.execGDcbdata1 v m s
  | .r64Hostdata => Sys2Proof.Machine.execR64Hostdata s
  | .r64aHostdata => Sys2Proof.Machine.execR64aHostdata s
  | .w64Hostdata v m => Sys2Proof.Machine.execW64Hostdata v m s
  | .g64Hostdata v m => Sys2Proof.Machine.execG64Hostdata v m s
  | .nop copy dir => Sys2Proof.Machine.execNop copy dir s
  | .pixel copy dir => Sys2Proof.Machine.execPixel copy dir s
  | .line copy dir => Sys2Proof.Machine.execLine copy dir s
  | .blockFill dir => Sys2Proof.Machine.execBlockFill dir s
  | .blockCopy dir => Sys2Proof.Machine.execBlockCopy dir s
  | .hostToFrame copy => Sys2Proof.Machine.execHostToFrame copy s
  | .frameToHost copy => Sys2Proof.Machine.execFrameToHost copy s
  | .reservedCmd5 copy dir => Sys2Proof.Machine.execReservedCmd5 copy dir s
  | .reservedCmd6 copy dir => Sys2Proof.Machine.execReservedCmd6 copy dir s
  | .reservedCmd7 copy dir => Sys2Proof.Machine.execReservedCmd7 copy dir s
  | .dcbwTgVtFramePtr => Sys2Proof.Machine.execDcbwTgVtFramePtr s
  | .dcbwTgVtLinePtr => Sys2Proof.Machine.execDcbwTgVtLinePtr s
  | .dcbwTgDidFramePtr => Sys2Proof.Machine.execDcbwTgDidFramePtr s
  | .dcbwTgCursorGlyphPtr => Sys2Proof.Machine.execDcbwTgCursorGlyphPtr s
  | .dcbwTgCursorX => Sys2Proof.Machine.execDcbwTgCursorX s
  | .dcbwTgCursorY => Sys2Proof.Machine.execDcbwTgCursorY s
  | .dcbwTgDisplayCtrl => Sys2Proof.Machine.execDcbwTgDisplayCtrl s
  | .dcbwTgVintLine => Sys2Proof.Machine.execDcbwTgVintLine s
  | .dcbwTgRamAddr => Sys2Proof.Machine.execDcbwTgRamAddr s
  | .dcbwTgRamData => Sys2Proof.Machine.execDcbwTgRamData s
  | .dcbwTgRevision => Sys2Proof.Machine.execDcbwTgRevision s
  | .dcbwTgReserved11 => Sys2Proof.Machine.execDcbwTgReserved11 s
  | .dcbwTgReserved12to15 k => Sys2Proof.Machine.execDcbwTgReserved12to15 k s
  | .dcbwClut01Index => Sys2Proof.Machine.execDcbwClut01Index s
  | .dcbwClut01Data => Sys2Proof.Machine.execDcbwClut01Data s
  | .dcbwClut01Revision => Sys2Proof.Machine.execDcbwClut01Revision s
  | .dcbwClut01Reserved3 => Sys2Proof.Machine.execDcbwClut01Reserved3 s
  | .dcbwClut01Reserved4to7 k => Sys2Proof.Machine.execDcbwClut01Reserved4to7 k s
  | .dcbwClut01Reserved8to15 k => Sys2Proof.Machine.execDcbwClut01Reserved8to15 k s
  | .dcbwClut0Index => Sys2Proof.Machine.execDcbwClut0Index s
  | .dcbwClut0Data => Sys2Proof.Machine.execDcbwClut0Data s
  | .dcbwClut0Revision => Sys2Proof.Machine.execDcbwClut0Revision s
  | .dcbwClut0Reserved3 => Sys2Proof.Machine.execDcbwClut0Reserved3 s
  | .dcbwClut0Reserved4to7 k => Sys2Proof.Machine.execDcbwClut0Reserved4to7 k s
  | .dcbwClut0Reserved8to15 k => Sys2Proof.Machine.execDcbwClut0Reserved8to15 k s
  | .dcbwClut1Index => Sys2Proof.Machine.execDcbwClut1Index s
  | .dcbwClut1Data => Sys2Proof.Machine.execDcbwClut1Data s
  | .dcbwClut1Revision => Sys2Proof.Machine.execDcbwClut1Revision s
  | .dcbwClut1Reserved3 => Sys2Proof.Machine.execDcbwClut1Reserved3 s
  | .dcbwClut1Reserved4to7 k => Sys2Proof.Machine.execDcbwClut1Reserved4to7 k s
  | .dcbwClut1Reserved8to15 k => Sys2Proof.Machine.execDcbwClut1Reserved8to15 k s
  | .dcbwPmr01Config => Sys2Proof.Machine.execDcbwPmr01Config s
  | .dcbwPmr01Revision => Sys2Proof.Machine.execDcbwPmr01Revision s
  | .dcbwPmr01Fifoavail => Sys2Proof.Machine.execDcbwPmr01Fifoavail s
  | .dcbwPmr01CursorCmap => Sys2Proof.Machine.execDcbwPmr01CursorCmap s
  | .dcbwPmr01PopupCmap => Sys2Proof.Machine.execDcbwPmr01PopupCmap s
  | .dcbwPmr01ModeIndex => Sys2Proof.Machine.execDcbwPmr01ModeIndex s
  | .dcbwPmr01ModeData => Sys2Proof.Machine.execDcbwPmr01ModeData s
  | .dcbwPmr01Reserved7 => Sys2Proof.Machine.execDcbwPmr01Reserved7 s
  | .dcbwPmr01Reserved8to15 k => Sys2Proof.Machine.execDcbwPmr01Reserved8to15 k s
  | .dcbwPmr0Config => Sys2Proof.Machine.execDcbwPmr0Config s
  | .dcbwPmr0Revision => Sys2Proof.Machine.execDcbwPmr0Revision s
  | .dcbwPmr0Fifoavail => Sys2Proof.Machine.execDcbwPmr0Fifoavail s
  | .dcbwPmr0CursorCmap => Sys2Proof.Machine.execDcbwPmr0CursorCmap s
  | .dcbwPmr0PopupCmap => Sys2Proof.Machine.execDcbwPmr0PopupCmap s
  | .dcbwPmr0ModeIndex => Sys2Proof.Machine.execDcbwPmr0ModeIndex s
  | .dcbwPmr0ModeData => Sys2Proof.Machine.execDcbwPmr0ModeData s
  | .dcbwPmr0Reserved7 => Sys2Proof.Machine.execDcbwPmr0Reserved7 s
  | .dcbwPmr0Reserved8to15 k => Sys2Proof.Machine.execDcbwPmr0Reserved8to15 k s
  | .dcbwPmr1Config => Sys2Proof.Machine.execDcbwPmr1Config s
  | .dcbwPmr1Revision => Sys2Proof.Machine.execDcbwPmr1Revision s
  | .dcbwPmr1Fifoavail => Sys2Proof.Machine.execDcbwPmr1Fifoavail s
  | .dcbwPmr1CursorCmap => Sys2Proof.Machine.execDcbwPmr1CursorCmap s
  | .dcbwPmr1PopupCmap => Sys2Proof.Machine.execDcbwPmr1PopupCmap s
  | .dcbwPmr1ModeIndex => Sys2Proof.Machine.execDcbwPmr1ModeIndex s
  | .dcbwPmr1ModeData => Sys2Proof.Machine.execDcbwPmr1ModeData s
  | .dcbwPmr1Reserved7 => Sys2Proof.Machine.execDcbwPmr1Reserved7 s
  | .dcbwPmr1Reserved8to15 k => Sys2Proof.Machine.execDcbwPmr1Reserved8to15 k s
  | .dcbwAnalogR k => Sys2Proof.Machine.execDcbwAnalogR k s
  | .dcbwLatch0R k => Sys2Proof.Machine.execDcbwLatch0R k s
  | .dcbwLatch1R k => Sys2Proof.Machine.execDcbwLatch1R k s
  | .dcbwNone10to11 k => Sys2Proof.Machine.execDcbwNone10to11 k s
  | .dcbwNone12to15 k => Sys2Proof.Machine.execDcbwNone12to15 k s
  | .dcbrTgVtFramePtr => Sys2Proof.Machine.execDcbrTgVtFramePtr s
  | .dcbrTgVtLinePtr => Sys2Proof.Machine.execDcbrTgVtLinePtr s
  | .dcbrTgDidFramePtr => Sys2Proof.Machine.execDcbrTgDidFramePtr s
  | .dcbrTgCursorGlyphPtr => Sys2Proof.Machine.execDcbrTgCursorGlyphPtr s
  | .dcbrTgCursorX => Sys2Proof.Machine.execDcbrTgCursorX s
  | .dcbrTgCursorY => Sys2Proof.Machine.execDcbrTgCursorY s
  | .dcbrTgDisplayCtrl => Sys2Proof.Machine.execDcbrTgDisplayCtrl s
  | .dcbrTgVintLine => Sys2Proof.Machine.execDcbrTgVintLine s
  | .dcbrTgRamAddr => Sys2Proof.Machine.execDcbrTgRamAddr s
  | .dcbrTgRamData => Sys2Proof.Machine.execDcbrTgRamData s
  | .dcbrTgRevision => Sys2Proof.Machine.execDcbrTgRevision s
  | .dcbrTgReserved11 => Sys2Proof.Machine.execDcbrTgReserved11 s
  | .dcbrTgReserved12to15 k => Sys2Proof.Machine.execDcbrTgReserved12to15 k s
  | .dcbrClut01Index => Sys2Proof.Machine.execDcbrClut01Index s
  | .dcbrClut01Data => Sys2Proof.Machine.execDcbrClut01Data s
  | .dcbrClut01Revision => Sys2Proof.Machine.execDcbrClut01Revision s
  | .dcbrClut01Reserved3 => Sys2Proof.Machine.execDcbrClut01Reserved3 s
  | .dcbrClut01Reserved4to7 k => Sys2Proof.Machine.execDcbrClut01Reserved4to7 k s
  | .dcbrClut01Reserved8to15 k => Sys2Proof.Machine.execDcbrClut01Reserved8to15 k s
  | .dcbrClut0Index => Sys2Proof.Machine.execDcbrClut0Index s
  | .dcbrClut0Data => Sys2Proof.Machine.execDcbrClut0Data s
  | .dcbrClut0Revision => Sys2Proof.Machine.execDcbrClut0Revision s
  | .dcbrClut0Reserved3 => Sys2Proof.Machine.execDcbrClut0Reserved3 s
  | .dcbrClut0Reserved4to7 k => Sys2Proof.Machine.execDcbrClut0Reserved4to7 k s
  | .dcbrClut0Reserved8to15 k => Sys2Proof.Machine.execDcbrClut0Reserved8to15 k s
  | .dcbrClut1Index => Sys2Proof.Machine.execDcbrClut1Index s
  | .dcbrClut1Data => Sys2Proof.Machine.execDcbrClut1Data s
  | .dcbrClut1Revision => Sys2Proof.Machine.execDcbrClut1Revision s
  | .dcbrClut1Reserved3 => Sys2Proof.Machine.execDcbrClut1Reserved3 s
  | .dcbrClut1Reserved4to7 k => Sys2Proof.Machine.execDcbrClut1Reserved4to7 k s
  | .dcbrClut1Reserved8to15 k => Sys2Proof.Machine.execDcbrClut1Reserved8to15 k s
  | .dcbrPmr01Config => Sys2Proof.Machine.execDcbrPmr01Config s
  | .dcbrPmr01Revision => Sys2Proof.Machine.execDcbrPmr01Revision s
  | .dcbrPmr01Fifoavail => Sys2Proof.Machine.execDcbrPmr01Fifoavail s
  | .dcbrPmr01CursorCmap => Sys2Proof.Machine.execDcbrPmr01CursorCmap s
  | .dcbrPmr01PopupCmap => Sys2Proof.Machine.execDcbrPmr01PopupCmap s
  | .dcbrPmr01ModeIndex => Sys2Proof.Machine.execDcbrPmr01ModeIndex s
  | .dcbrPmr01ModeData => Sys2Proof.Machine.execDcbrPmr01ModeData s
  | .dcbrPmr01Reserved7 => Sys2Proof.Machine.execDcbrPmr01Reserved7 s
  | .dcbrPmr01Reserved8to15 k => Sys2Proof.Machine.execDcbrPmr01Reserved8to15 k s
  | .dcbrPmr0Config => Sys2Proof.Machine.execDcbrPmr0Config s
  | .dcbrPmr0Revision => Sys2Proof.Machine.execDcbrPmr0Revision s
  | .dcbrPmr0Fifoavail => Sys2Proof.Machine.execDcbrPmr0Fifoavail s
  | .dcbrPmr0CursorCmap => Sys2Proof.Machine.execDcbrPmr0CursorCmap s
  | .dcbrPmr0PopupCmap => Sys2Proof.Machine.execDcbrPmr0PopupCmap s
  | .dcbrPmr0ModeIndex => Sys2Proof.Machine.execDcbrPmr0ModeIndex s
  | .dcbrPmr0ModeData => Sys2Proof.Machine.execDcbrPmr0ModeData s
  | .dcbrPmr0Reserved7 => Sys2Proof.Machine.execDcbrPmr0Reserved7 s
  | .dcbrPmr0Reserved8to15 k => Sys2Proof.Machine.execDcbrPmr0Reserved8to15 k s
  | .dcbrPmr1Config => Sys2Proof.Machine.execDcbrPmr1Config s
  | .dcbrPmr1Revision => Sys2Proof.Machine.execDcbrPmr1Revision s
  | .dcbrPmr1Fifoavail => Sys2Proof.Machine.execDcbrPmr1Fifoavail s
  | .dcbrPmr1CursorCmap => Sys2Proof.Machine.execDcbrPmr1CursorCmap s
  | .dcbrPmr1PopupCmap => Sys2Proof.Machine.execDcbrPmr1PopupCmap s
  | .dcbrPmr1ModeIndex => Sys2Proof.Machine.execDcbrPmr1ModeIndex s
  | .dcbrPmr1ModeData => Sys2Proof.Machine.execDcbrPmr1ModeData s
  | .dcbrPmr1Reserved7 => Sys2Proof.Machine.execDcbrPmr1Reserved7 s
  | .dcbrPmr1Reserved8to15 k => Sys2Proof.Machine.execDcbrPmr1Reserved8to15 k s
  | .dcbrAnalogR k => Sys2Proof.Machine.execDcbrAnalogR k s
  | .dcbrLatch0R k => Sys2Proof.Machine.execDcbrLatch0R k s
  | .dcbrLatch1R k => Sys2Proof.Machine.execDcbrLatch1R k s
  | .dcbrNone10to11 k => Sys2Proof.Machine.execDcbrNone10to11 k s
  | .dcbrNone12to15 k => Sys2Proof.Machine.execDcbrNone12to15 k s
  | .readoutX0 => Sys2Proof.Machine.execReadoutX0 s
  | .readoutY0 => Sys2Proof.Machine.execReadoutY0 s
  | .readoutX1 => Sys2Proof.Machine.execReadoutX1 s
  | .readoutY1 => Sys2Proof.Machine.execReadoutY1 s
  | .beginDidLine y => Sys2Proof.Machine.execBeginDidLine y s
  | .nextDidLineEntry => Sys2Proof.Machine.execNextDidLineEntry s
  | .didFor y x => Sys2Proof.Machine.execDidFor y x s
  | .getCursorPixel x y => Sys2Proof.Machine.execGetCursorPixel x y s
  | .displayPixel x y => Sys2Proof.Machine.execDisplayPixel x y s
  | .paletteBase c => Sys2Proof.Machine.execPaletteBase c s
  | .is8bpp => Sys2Proof.Machine.execIs8bpp s
  | .modeEntry j => Sys2Proof.Machine.execModeEntry j s
  | .cursorCmap => Sys2Proof.Machine.execCursorCmap s
  | .popupCmap => Sys2Proof.Machine.execPopupCmap s
  | .dcbTimeout => Sys2Proof.Machine.execDcbTimeout s
  | .hardReset => Sys2Proof.Machine.execHardReset s
  | .softReset => Sys2Proof.Machine.execSoftReset s

end Sys2Proof.Machine
end

