-- ==== Sys2Proof/Machine/Step.lean ====
section
/-! DEFINITION. The step: the request at the head of the schedule is decoded and run (00_scope.md R7, R8; log 1). -/

namespace Sys2Proof.Machine

/-- One step of the machine. The head of the schedule is taken off it and decoded; the instruction runs, or a request that is
none is answered as R115 says of an invalid access. With nothing waiting, the timer is the one agent left that can act: an
armed timeout fires (R17, log 2). -/
def step (s : State) : Host.Outcome State Fault Refusal :=
  match s.inbox with
  | [] => .next (dcbTimeout s.idle)
  | r :: rest =>
    match decode r with
    | .ok i => exec i (s.taking rest)
    | .error e => rejected e (s.taking rest)

/-- The state whose next step runs the instruction of the opcode-table word `w`: its request goes to the head of the
schedule, which is where a step takes its instruction from (logs 1 and 10). -/
def State.withFetchWord (s : State) (nbits w : Nat) : State := { s with inbox := tableRequest nbits w :: s.inbox }

end Sys2Proof.Machine
end

