-- ==== Sys2Proof/Safety.lean ====
section
/-! DEFINITION. What a well-formed state is and what a safe run is, in the terms the statements use. The core has no fault
(60_exceptions.md R351), so a safe step is one that answers a next state; the predicates below say which states make sense. -/

namespace Sys2Proof.Machine

/-- The step goes on: it answers a next state (R351). -/
def State.goesOn (s : State) : Prop := ∃ t, step s = .next t

/-! ## Frames -/

/-- `t` differs from `s` in nothing but plane cells and the colour and Z accumulators: all that the visits of a PIXEL, LINE or
BLOCK fill can change (41_command_engine.md R166; 42_pixel_pipeline.md R181; 43_rasterizer.md R218). -/
def State.onlyDrew (s t : State) : Prop :=
  t = { s with
        planes := t.planes,
        ce := { s.ce with red := t.ce.red, green := t.ce.green, blue := t.ce.blue, alpha := t.ce.alpha, zacc := t.ce.zacc } }

/-- `t` differs from `s` in nothing but what a command may write (41_command_engine.md R166): plane cells, the accumulators,
the BRES registers, CURXY and XF. -/
def State.onlyCommanded (s t : State) : Prop :=
  t = { s with
        planes := t.planes, xf := t.xf,
        ce := { s.ce with
          red := t.ce.red, green := t.ce.green, blue := t.ce.blue, alpha := t.ce.alpha, zacc := t.ce.zacc,
          bresErr := t.ce.bresErr, bresInc1 := t.ce.bresInc1, bresInc2 := t.ce.bresInc2, bresCount := t.ce.bresCount,
          bresOctant := t.ce.bresOctant, curxy := t.ce.curxy } }

/-! ## Register groups and views -/

/-- The plain read/write registers of 40_register_access.md R119. -/
def plainRegs : List Reg :=
  [.wrmask, .colori, .xymove, .clipmin, .clipmax, .red, .green, .blue, .alpha, .zacc, .slopeR, .slopeG, .slopeB, .slopeA,
   .slopeZ, .stipx0, .stipx1, .stipx2, .stipx3, .stipx4, .stipy0, .stipy1, .stipy2, .stipy3, .stipy4, .dcbmode, .dcbdata1]

/-- The coordinate registers of 40_register_access.md R120. -/
def coordRegs : List Reg := [.xstart, .ystart, .xend, .yend]

/-- The read-only registers of 40_register_access.md R116. -/
def readOnlyRegs : List Reg := [.bresErr, .bresInc1, .bresInc2, .bresCount, .bresOctant, .curxy]

/-- The mask of an access to `r` is not 0: a width-4 access has the low 32 bits of the mask (R111, R131). -/
def maskLive (r : HostReg) (m : W64) : Bool := if isWide r then decide (m ≠ 0) else decide (m.setWidth 32 ≠ 0)

/-- `s` with its transfer, if any, ended (41_command_engine.md R173). -/
def State.transferEnded (s : State) : State := { s with xf := { s.xf with active := false } }

/-! ## What a drawing step does, in closed form -/

/-- The accumulators as `n` visited positions leave them: each advanced by `n` times its slope, modulo 2^32, when shading is
enabled, else as they were (43_rasterizer.md R218, 41_command_engine.md R163). -/
def State.advancedBy (n : Nat) (s : State) : State :=
  if s.colorsrc = 1 then
    { s with ce := { s.ce with
        red := s.ce.red + BitVec.ofNat 32 n * s.ce.slopeR, green := s.ce.green + BitVec.ofNat 32 n * s.ce.slopeG,
        blue := s.ce.blue + BitVec.ofNat 32 n * s.ce.slopeB, alpha := s.ce.alpha + BitVec.ofNat 32 n * s.ce.slopeA,
        zacc := s.ce.zacc + BitVec.ofNat 32 n * s.ce.slopeZ } }
  else s

/-- `t`'s planes are `s`'s after one store at (x, y): in each enabled plane the pixel's cell takes the stored value if the
position passes its tests, and every other cell reads as before (42_pixel_pipeline.md R181). -/
def State.storedAt (s t : State) (x y : Int) (src : PlaneId → W32) : Prop :=
  ∀ p u w, planeRead t p u w =
    if u = x ∧ w = y ∧ positionPass s x y = true ∧ s.planeEnabled p = true
    then storeValue s (planeRead s p u w) (src p) else planeRead s p u w

/-- How many steps along the other axis the reference Bresenham line has taken after `k` steps along the dominant one: the
nearest integer to m k / M, ties away from the start (43_rasterizer.md R214). -/
def LineSetup.minorAt (l : LineSetup) (k : Nat) : Nat := (2 * l.minor * k + l.major) / (2 * l.major)

/-- The x of a line's k-th position. -/
def LineSetup.posX (l : LineSetup) (k : Nat) : Int :=
  l.x0 + l.sx.toInt * (if l.ymaj then l.minorAt k else k : Nat)

/-- The y of a line's k-th position. -/
def LineSetup.posY (l : LineSetup) (k : Nat) : Int :=
  l.y0 + l.sy.toInt * (if l.ymaj then k else l.minorAt k : Nat)

/-- How many positions a line visits: none of a zero-length line, else M, and one more with ENDPT (43_rasterizer.md R216,
R217). -/
def LineSetup.visits (l : LineSetup) (endpt : Bool) : Nat :=
  if l.major = 0 then 0 else if endpt then l.major + 1 else l.major

/-- The `i`-th coordinate of a walk from `a` toward `b` (41_command_engine.md R159). -/
def toward (a b : Int) (i : Nat) : Int := if b ≥ a then a + i else a - i

/-- One pixel of a host-to-frame transfer has moved from `s` to `t`, from host word `w` (41_command_engine.md R169). -/
def State.pixelMovedIn (s t : State) (w : W32) : Prop :=
  t = { s with
        planes := t.planes, xf := s.xf.advance, ce := { s.ce with curxy := packXY s.xf.hx s.xf.hy } } ∧
    s.storedAt t s.xf.hx s.xf.hy (fun _ => hostSource s (if s.byteSwap then swap32 w else w))

/-- The host word the next pixel of a frame-to-host transfer gives (41_command_engine.md R172): the cell of the lowest enabled
plane, 0 with none enabled, converted and byte-swapped. -/
def State.pixelOut (s : State) : W32 :=
  let read := fun p => planeRead s p s.xf.hx s.xf.hy
  let c := if s.planeEnabled .primary then read .primary else if s.planeEnabled .overlay then read .overlay
    else if s.planeEnabled .popup then read .popup else if s.planeEnabled .cid then read .cid else 0
  if s.byteSwap then swap32 (cellToHost s c) else cellToHost s c

/-- `s` after one pixel of a frame-to-host transfer has moved (41_command_engine.md R170, R172). -/
def State.pixelMovedOut (s : State) : State :=
  { s with xf := s.xf.advance, ce := { s.ce with curxy := packXY s.xf.hx s.xf.hy } }

/-- One of two things, by instance. -/
def Inst.pick {α : Type} (i : Inst) (a b : α) : α :=
  match i with
  | .zero => a
  | .one => b

/-- `s` after a DCB transaction that was answered and wrote nothing: no timeout is armed (48_dcb.md R335). -/
def State.answered (s : State) : State := { s with dcbPending := false }

/-- `s` after a DCB read that was answered with `v` (48_dcb.md R336). -/
def State.answeredWith (s : State) (v : W32) : State := { s with dcbPending := false, ce := { s.ce with dcbdata0 := v } }

/-- The window the next reading query sees: the cached one, or, where the TG is dirty, the decoded one (R300). -/
def State.currentWindow (s : State) : Window := if s.tg.dirty then decodeWindow s else s.tg.win

/-- `s` as a query that reads the window finds it: decoded, with the TIMING_CHANGED edge if the TG was dirty (R300). -/
def State.decoded (s : State) : State :=
  { s with
    tg := { s.tg with win := s.currentWindow, dirty := false },
    out := s.out ++ (if s.tg.dirty then [.timingChanged] else []) }

/-- The state after DATA writes of the values `vs` to CLUT[c], one after another (46_color_lookup.md R281). -/
def clutBurst (c : Inst) (vs : List W32) (s : State) : State := vs.foldl (fun t v => clutWrite c 1 v t) s

/-! ## Well-formed states -/

/-- Every memory has its canonical form and lists no location outside itself (10_state.md R41, R43, R44, R47; log 7). -/
def State.memoriesCanonical (s : State) : Prop :=
  (∀ p : PlaneId, (s.planes.get p).wf (s.par.fbW * s.par.fbH) = true) ∧
    (∀ c : Inst, (s.clut c).table.wf s.par.clutEntries = true) ∧
    (∀ i : Inst, (s.pmr i).mode.wf 32 = true) ∧
    s.tram.wf s.par.tramWords = true

/-- Every reserved bit of every register that has some reads 0 (40_register_access.md R114; 10_state.md R23, R24, R34, R37,
R42, R46). -/
def State.reservedBitsZero (s : State) : Prop :=
  s.ce.drawmode0 &&& ~~~(0x0001FFFF : W32) = 0 ∧ s.ce.drawmode1 &&& ~~~(0x0003FFFF : W32) = 0 ∧
    s.ce.dcbmode &&& ~~~(0x000000FF : W32) = 0 ∧ s.ce.bresOctant &&& ~~~(7 : W32) = 0 ∧
    (∀ i : Inst, (s.pmr i).config &&& ~~~(1 : W8) = 0) ∧ s.tg.displayCtrl &&& ~~~(0x001F : W16) = 0

/-- Every index register and TRAM cursor names an entry of its table (20_memory.md R80, 46_color_lookup.md R282). -/
def State.indicesInRange (s : State) : Prop :=
  (∀ c : Inst, (s.clut c).index < s.par.clutEntries) ∧ s.tg.lc < s.par.tramWords

/-- A 16-bit coordinate, -32768..32767 (30_encoding.md R88, 10_state.md R39). -/
def coordinateOk (v : Int) : Prop := -32768 ≤ v ∧ v ≤ 32767

/-- `v` lies between `a` and `b`, whichever is the larger. -/
def within (a b v : Int) : Prop := (a ≤ v ∧ v ≤ b) ∨ (b ≤ v ∧ v ≤ a)

/-- The transfer's corners are coordinates, its steps lead from the first corner to the second, and its cursor lies in its
rectangle (10_state.md R39, 41_command_engine.md R168, R170). -/
def Xfer.cursorInside (f : Xfer) : Prop :=
  coordinateOk f.x0 ∧ coordinateOk f.y0 ∧ coordinateOk f.x1 ∧ coordinateOk f.y1 ∧
    f.sx = signToward f.x0 f.x1 ∧ f.sy = signToward f.y0 f.y1 ∧ within f.x0 f.x1 f.hx ∧ within f.y0 f.y1 f.hy

/-- The cached window is the decoded one wherever the TG is not dirty (20_memory.md R79, 47_timing_cursor.md R300). -/
def State.windowFresh (s : State) : Prop := s.tg.dirty = false → s.tg.win = decodeWindow s

/-- The states every run from reset stays in. -/
structure State.Inv (s : State) : Prop where
  parameters : s.par.wf = true
  canonical : s.memoriesCanonical
  reserved : s.reservedBitsZero
  indices : s.indicesInRange
  transfer : s.xf.cursorInside
  window : s.windowFresh
  /-- BRES_COUNT is at most 65535 (10_state.md R34). -/
  count : s.ce.bresCount.toNat ≤ 65535

end Sys2Proof.Machine
end

