-- ==== Sys2Proof/Certificates/Slice0/Obligations.lean ====
section
/-! DEFINITION. The statements for the provers. Each docstring says which rule of spec/ the statement formalises, and which
part of it, where any, is the model's own choice. -/

open Sys2Proof Sys2Proof.Machine

/-! ## Decoding and encoding -/

/-- Every well-formed instruction, with every operand, is read back from its own request (R81, R82, R90, R91). -/
def Obligations.DecodeEncode : Prop := ∀ i : Instr, i.wf = true → decode (encode i) = .ok i

/-- Every 5-bit command key and every 9-bit DCB key is read as one instruction, which is written with that key (R98). Words
written out from the spec's encodings are read as the instructions they stand for: a write, a write at a GO alias, a wide write
under a mask, reads, a missing mask as the all-ones mask (R111), a command, DCB transactions, the timeout event. -/
def Obligations.KeysAndWordsDecode : Prop :=
  (∀ k : BitVec 5, encode (decodeCommand k) = .command k) ∧ (∀ k : BitVec 9, encode (decodeDcb k) = .dcb k) ∧
    decode (.host 0b10000000000100 0x263 none) = .ok (.wDrawmode1 0x263 0xFFFFFFFF) ∧
    decode (.host 0b10100000100100 0x000A0000 none) = .ok (.gXyendi 0x000A0000 0xFFFFFFFF) ∧
    decode (.host 0b11000010110000 0x1122334455667788 (some 0xFF)) = .ok (.w64Hostdata 0x1122334455667788 0xFF) ∧
    decode (.host 0b00000010100000 0 none) = .ok .rStatus ∧
    decode (.host 0b00100010101000 0 none) = .ok .raDcbdata0 ∧
    decode (.command 0b01011) = .ok (.blockCopy false) ∧
    decode (.dcb 0b100101001) = .ok (.dcbwClut0Reserved8to15 1) ∧
    decode (.dcb 0b000001001) = .ok .dcbrTgRamData ∧
    decode .timeout = .ok .dcbTimeout

/-- A host access to anything but a register of R86 with its width, at the register's own offset or at its GO alias, is invalid:
a read answers 0 of the access's width, a write changes nothing and runs no command, and any other access is an instruction
(R115). The step's own bookkeeping (the request leaves the schedule, the output starts empty) is the model's, logs 1 and 5. -/
def Obligations.InvalidAccess : Prop :=
  ∀ (s : State) (key : BitVec 14) (v : W64) (m : Option W64) (rest : List Request), s.inbox = .host key v m :: rest →
    let roff := (key.extractLsb' 0 11).toNat
    let valid := if key.getLsbD 12 then roff = 0x0B0 else roff % 4 = 0 ∧ roff ≤ 0x0AC ∧ roff ≠ 0x05C
    (valid → ∃ i, decode (.host key v m) = .ok i) ∧
      (¬ valid → step s = .next { s with
        inbox := rest,
        out := if key.getLsbD 13 then [] else if key.getLsbD 12 then [.data64 0] else [.data32 0] })

/-- A request the decoder reads is read as a well-formed instruction. -/
def Obligations.DecodedWellFormed : Prop := ∀ (r : Request) (i : Instr), decode r = .ok i → i.wf = true

/-- A step runs the decoded instruction: exec of it, on the state without the request and with the outputs of the step before
gone (the bookkeeping of logs 1 and 5; R7, R8). With an empty schedule the timer steps: an armed timeout fires, else only the
outputs go (log 2, the model's choice). A `palette_base` of an instance other than 0 and 1 is refused by its name (log 11, the
model's reading); no other request is refused or faults. -/
def Obligations.StepRunsDecoded : Prop :=
  ∀ s : State,
    (∀ (r : Request) (rest : List Request) (i : Instr), s.inbox = r :: rest → decode r = .ok i → i.wf = true →
      step s = exec i { s with inbox := rest, out := [] }) ∧
    (s.inbox = [] → s.dcbPending = true → step s = .next { s with dcbPending := false, dcbtmo := true, out := [] }) ∧
    (s.inbox = [] → s.dcbPending = false → step s = .next { s with out := [] }) ∧
    (∀ c rest, s.inbox = .query (.paletteBase c) :: rest → 2 ≤ c → step s = .refused (.noSuchClut c)) ∧
    ∀ r rest, s.inbox = r :: rest → (∀ c, r = .query (.paletteBase c) → c < 2) → ∃ t, step s = .next t

/-- Every well-formed instruction answers a next state in every state: no host access, command, query, timeout event or reset
faults, stalls or refuses (R351). -/
def Obligations.EveryInstructionCompletes : Prop :=
  ∀ (i : Instr) (s : State), i.wf = true → ∃ t, exec i s = .next t

/-! ## Register access -/

/-- A write of a plain register merges the value under the mask; DCBMODE's bits 31:8 become 0; nothing else changes (R119). -/
def Obligations.PlainRegisterWrite : Prop :=
  ∀ r ∈ plainRegs, ∀ (v m : W64) (s : State), m.setWidth 32 ≠ (0 : W32) →
    let n := (s.ce.get r &&& ~~~(m.setWidth 32)) ||| (v.setWidth 32 &&& m.setWidth 32)
    exec (writeInstr (.ce r) v m) s =
      .next { s with ce := s.ce.set r (if r = .dcbmode then n &&& 0x000000FF else n) }

/-- A write of DRAWMODE0 or DRAWMODE1 merges the value under the mask, forces the reserved bits to 0 and ends an active
transfer, whatever the value; nothing else changes (R117, R118). -/
def Obligations.DrawmodeWrite : Prop :=
  ∀ (v m : W32) (s : State), m ≠ 0 →
    exec (.wDrawmode0 v m) s =
        .next { s.transferEnded with
          ce := { s.ce with drawmode0 := ((s.ce.drawmode0 &&& ~~~m) ||| (v &&& m)) &&& 0x0001FFFF } } ∧
      exec (.wDrawmode1 v m) s =
        .next { s.transferEnded with
          ce := { s.ce with drawmode1 := ((s.ce.drawmode1 &&& ~~~m) ||| (v &&& m)) &&& 0x0003FFFF } }

/-- A write of a coordinate register merges the value under the mask, fraction bits and all, and ends an active transfer;
nothing else changes (R120). -/
def Obligations.CoordinateWrite : Prop :=
  ∀ r ∈ coordRegs, ∀ (v m : W64) (s : State), m.setWidth 32 ≠ (0 : W32) →
    exec (writeInstr (.ce r) v m) s =
      .next { s.transferEnded with
        ce := s.ce.set r ((s.ce.get r &&& ~~~(m.setWidth 32)) ||| (v.setWidth 32 &&& m.setWidth 32)) }

/-- A write of a packed view: a half whose mask is not 0 takes the merged integer and loses its fraction, a half whose mask is 0
keeps its register, an active transfer ends, nothing else changes (R121). -/
def Obligations.PackedViewWrite : Prop :=
  ∀ (v m : W32) (s : State), m ≠ 0 →
    let hi := decide (m.extractLsb' 16 16 ≠ 0)
    let lo := decide (m.extractLsb' 0 16 ≠ 0)
    let merged := fun (rx ry : W32) =>
      ((rx.extractLsb' 16 16 ++ ry.extractLsb' 16 16) &&& ~~~m) ||| (v &&& m)
    let x := fun (rx ry : W32) => if hi then (merged rx ry).extractLsb' 16 16 ++ 0#16 else rx
    let y := fun (rx ry : W32) => if lo then (merged rx ry).extractLsb' 0 16 ++ 0#16 else ry
    exec (.wXystarti v m) s =
        .next { s.transferEnded with
          ce := { s.ce with xstart := x s.ce.xstart s.ce.ystart, ystart := y s.ce.xstart s.ce.ystart } } ∧
      exec (.wXyendi v m) s =
        .next { s.transferEnded with
          ce := { s.ce with xend := x s.ce.xend s.ce.yend, yend := y s.ce.xend s.ce.yend } }

/-- A write of STATUS clears VINT where bit 4 of the written lanes is 1 and DCBTMO where bit 3 is 1, and does nothing else
(R123). -/
def Obligations.StatusWrite : Prop :=
  ∀ (v m : W32) (s : State),
    exec (.wStatus v m) s =
      .next { s with vint := s.vint && !(v &&& m).getLsbD 4, dcbtmo := s.dcbtmo && !(v &&& m).getLsbD 3 }

/-- A write to a read-only register is ignored; at its GO alias the command still runs (R116). -/
def Obligations.ReadOnlyWrite : Prop :=
  ∀ r ∈ readOnlyRegs, ∀ (v m : W64) (s : State),
    exec (writeInstr (.ce r) v m) s = .next s ∧
      (m.setWidth 32 ≠ (0 : W32) → exec (goInstr (.ce r) v m) s = exec (decodeCommand (s.ce.drawmode0.extractLsb' 0 5)) s)

/-- A write whose mask is 0 has no effect at all, at a register's own offset and at its GO alias (R131). -/
def Obligations.MaskZeroWrite : Prop :=
  ∀ (r : HostReg) (v m : W64) (s : State), maskLive r m = false →
    exec (writeInstr r v m) s = .next s ∧ exec (goInstr r v m) s = .next s

/-- A write at a GO alias does the register's write first, with all its effects, then runs the command that DRAWMODE0 selects in
the state the write left (R129); both complete. -/
def Obligations.GoAliasWrite : Prop :=
  ∀ (r : HostReg) (v m : W64) (s : State), maskLive r m = true →
    ∃ t u, exec (writeInstr r v m) s = .next t ∧
      exec (decodeCommand (t.ce.drawmode0.extractLsb' 0 5)) t = .next u ∧ exec (goInstr r v m) s = .next u

/-- A read of a stored register other than DCBDATA0, or of a view, gives its value and changes nothing (R124, R132). -/
def Obligations.RegisterReads : Prop :=
  ∀ s : State,
    (∀ r : Reg, r ≠ .dcbdata0 → exec (readInstr (.ce r)) s = .next { s with out := s.out ++ [.data32 (s.ce.get r)] }) ∧
      exec .rXystarti s =
        .next { s with out := s.out ++ [.data32 (s.ce.xstart.extractLsb' 16 16 ++ s.ce.ystart.extractLsb' 16 16)] } ∧
      exec .rXyendi s =
        .next { s with out := s.out ++ [.data32 (s.ce.xend.extractLsb' 16 16 ++ s.ce.yend.extractLsb' 16 16)] }

/-- A read of STATUS changes nothing and gives VINT, DCBTMO, DCBPEND and HOSTACT in bits 4, 3, 2 and 1; BUSY, FIFOLVL and the
reserved bits read 0 (R122). -/
def Obligations.StatusRead : Prop :=
  ∀ s : State, ∃ w : W32, exec .rStatus s = .next { s with out := s.out ++ [.data32 w] } ∧
    w.getLsbD 4 = s.vint ∧ w.getLsbD 3 = s.dcbtmo ∧ w.getLsbD 2 = s.dcbPending ∧ w.getLsbD 1 = s.xf.active ∧
    w.getLsbD 0 = false ∧ ∀ i, 5 ≤ i → w.getLsbD i = false

/-- A read at a GO alias is the read of the register, with the same side effects, and runs no command (R130); it completes. -/
def Obligations.ReadAlias : Prop :=
  ∀ (r : HostReg) (s : State), ∃ t, exec (readInstr r) s = .next t ∧ exec (readAliasInstr r) s = .next t

/-- HOSTDATA without a transfer in its direction: a write only stores, a read only returns the stored value (R174). -/
def Obligations.HostdataStoreOnly : Prop :=
  ∀ (v m : W64) (s : State),
    (¬ (s.xf.active = true ∧ s.xf.dir = .hostToFrame) →
      exec (.w64Hostdata v m) s = .next { s with hostdata := (s.hostdata &&& ~~~m) ||| (v &&& m) }) ∧
    (¬ (s.xf.active = true ∧ s.xf.dir = .frameToHost) →
      exec .r64Hostdata s = .next { s with out := s.out ++ [.data64 s.hostdata] })

/-- A write of DCBDATA0 stores the merged value, then runs the DCB write that DCBMODE selects; a read runs the DCB read that
DCBMODE selects, then returns DCBDATA0 (R125, R126). -/
def Obligations.DcbData0Access : Prop :=
  ∀ (v m : W32) (s : State),
    (m ≠ 0 → ∃ t, exec (decodeDcb (1#1 ++ s.ce.dcbmode.extractLsb' 0 8))
        { s with ce := { s.ce with dcbdata0 := (s.ce.dcbdata0 &&& ~~~m) ||| (v &&& m) } } = .next t ∧
      exec (.wDcbdata0 v m) s = .next t) ∧
    (∃ t, exec (decodeDcb (0#1 ++ s.ce.dcbmode.extractLsb' 0 8)) s = .next t ∧
      exec .rDcbdata0 s = .next { t with out := t.out ++ [.data32 t.ce.dcbdata0] })

/-! ## Host transfers -/

/-- HOST setup: XF takes the rectangle, the direction and the first position, CURXY the first position; an active transfer is
replaced and no pixel moves (R168). The direction is the row's (log 4). The coordinates X0, Y0, X1, Y1 are the signed upper halves
of XSTART, YSTART, XEND, YEND, and MOVEX, MOVEY the signed halves of XYMOVE (R88, R29). -/
def Obligations.HostSetup : Prop :=
  ∀ (c : Bool) (s : State),
    (s.x0 = (s.ce.xstart.extractLsb' 16 16).toInt ∧ s.y0 = (s.ce.ystart.extractLsb' 16 16).toInt ∧
      s.x1 = (s.ce.xend.extractLsb' 16 16).toInt ∧ s.y1 = (s.ce.yend.extractLsb' 16 16).toInt ∧
      s.moveX = (s.ce.xymove.extractLsb' 16 16).toInt ∧ s.moveY = (s.ce.xymove.extractLsb' 0 16).toInt) ∧
    let started := fun dir =>
      { s with
        xf := { active := true, dir := dir, x0 := s.x0, y0 := s.y0, x1 := s.x1, y1 := s.y1,
                sx := if s.x1 ≥ s.x0 then .pos else .neg, sy := if s.y1 ≥ s.y0 then .pos else .neg,
                hx := s.x0, hy := s.y0 },
        ce := { s.ce with curxy := BitVec.ofInt 16 s.x0 ++ BitVec.ofInt 16 s.y0 } }
    exec (.hostToFrame c) s = .next (started .hostToFrame) ∧ exec (.frameToHost c) s = .next (started .frameToHost)

/-- A HOSTDATA write during a host-to-frame transfer stores the merged value and moves its pixels: one from the low half, or
with WPACK two, the more significant half first, the second only if the transfer is still active (R169). -/
def Obligations.HostConsume : Prop :=
  ∀ (v m : W64) (s : State), m ≠ 0 → s.xf.active = true → s.xf.dir = .hostToFrame →
    let h := (s.hostdata &&& ~~~m) ||| (v &&& m)
    let s1 : State := { s with hostdata := h }
    ∃ t, exec (.w64Hostdata v m) s = .next t ∧
      (s.wpack = false → s1.pixelMovedIn t (h.extractLsb' 0 32)) ∧
      (s.wpack = true → ∃ u, s1.pixelMovedIn u (h.extractLsb' 32 32) ∧
        if u.xf.active = true then u.pixelMovedIn t (h.extractLsb' 0 32) else t = u)

/-- A HOSTDATA read during a frame-to-host transfer assembles one pixel in the low half, or with RPACK two, the first in the
more significant half and the second half 0 if the transfer completed; HOSTDATA takes the value, the read answers it, and no
plane cell changes (R172). -/
def Obligations.HostProduce : Prop :=
  ∀ s : State, s.xf.active = true → s.xf.dir = .frameToHost →
    let t := s.pixelMovedOut
    (s.rpack = false →
      exec .r64Hostdata s =
        .next { t with hostdata := 0#32 ++ s.pixelOut, out := s.out ++ [.data64 (0#32 ++ s.pixelOut)] }) ∧
    (s.rpack = true → t.xf.active = true →
      exec .r64Hostdata s =
        .next { t.pixelMovedOut with
          hostdata := s.pixelOut ++ t.pixelOut, out := s.out ++ [.data64 (s.pixelOut ++ t.pixelOut)] }) ∧
    (s.rpack = true → t.xf.active = false →
      exec .r64Hostdata s =
        .next { t with hostdata := s.pixelOut ++ 0#32, out := s.out ++ [.data64 (s.pixelOut ++ 0#32)] })

/-- The transfer cursor, started by a HOST command, visits the whole rectangle in the order of R159, one pixel per advance, row
by row from the first corner toward the second, stays active until the last pixel has moved, and then ends (R168, R170). -/
def Obligations.TransferVisitsRectangle : Prop :=
  ∀ (c : Bool) (s : State), ∃ t, exec (.hostToFrame c) s = .next t ∧
    let w := (s.x1 - s.x0).natAbs + 1
    let h := (s.y1 - s.y0).natAbs + 1
    (∀ n, n < w * h →
      let f := Xfer.advance^[n] t.xf
      f.active = true ∧ f.hx = toward s.x0 s.x1 (n % w) ∧ f.hy = toward s.y0 s.y1 (n / w)) ∧
    (Xfer.advance^[w * h] t.xf).active = false

/-! ## Commands -/

/-- NOP and the reserved commands do nothing but end an active transfer (R153, R154, R165). -/
def Obligations.NopAndReserved : Prop :=
  ∀ (c d : Bool) (s : State),
    exec (.nop c d) s = .next s.transferEnded ∧ exec (.reservedCmd5 c d) s = .next s.transferEnded ∧
      exec (.reservedCmd6 c d) s = .next s.transferEnded ∧ exec (.reservedCmd7 c d) s = .next s.transferEnded

/-- Every command completes and writes nothing but plane cells, the accumulators, the BRES registers (LINE only), CURXY and XF
(HOST, or the end of a transfer); no STATUS bit but HOSTACT changes (R166, R167). -/
def Obligations.CommandFrame : Prop :=
  ∀ (k : BitVec 5) (s : State), ∃ t, exec (decodeCommand k) s = .next t ∧ s.onlyCommanded t ∧
    (k.extractLsb' 0 3 ≠ 2#3 →
      t.ce.bresErr = s.ce.bresErr ∧ t.ce.bresInc1 = s.ce.bresInc1 ∧ t.ce.bresInc2 = s.ce.bresInc2 ∧
        t.ce.bresCount = s.ce.bresCount ∧ t.ce.bresOctant = s.ce.bresOctant) ∧
    (k.extractLsb' 0 3 ≠ 4#3 → t.xf = { s.xf with active := false })

/-- PIXEL stores the fill source at (X0, Y0) if the position passes its tests, advances the accumulators once when shading is
enabled whether or not it does, and sets CURXY; nothing else changes but an active transfer, which ends (R153, R155). The mode
fields that this and the other statements name are bits of DRAWMODE0 and DRAWMODE1 (R23, R24). The fill source is COLORI for
COLORSRC 0 and 3; for 1 the shaded value: the accumulators' channels, floored and clamped to 0..255, packed, or in CI mode the red
accumulator's integer part; for 2 the low half of HOSTDATA, byte-swapped where BYTESWAP asks, converted (R188, R189, R175). -/
def Obligations.PixelStore : Prop :=
  ∀ (c d : Bool) (s : State),
    (∃ t, exec (.pixel c d) s = .next t ∧
      s.storedAt t s.x0 s.y0 (fun _ => fillSource s) ∧
      t = { s.transferEnded with
            planes := t.planes,
            ce := { (s.advancedBy 1).ce with curxy := BitVec.ofInt 16 s.x0 ++ BitVec.ofInt 16 s.y0 } }) ∧
    (let m0 := s.ce.drawmode0
     let m1 := s.ce.drawmode1
     (∀ p : PlaneId, s.planeEnabled p = m0.getLsbD (5 + p.num)) ∧ s.colorsrc = (m0.extractLsb' 9 2).toNat ∧
       s.endpt = m0.getLsbD 11 ∧ s.depth = Depth.ofBits (m1.extractLsb' 0 2) ∧ s.hostDepth = Depth.ofBits (m1.extractLsb' 2 2) ∧
       s.rgbMode = m1.getLsbD 4 ∧ s.wpack = m1.getLsbD 15 ∧ s.rpack = m1.getLsbD 16 ∧ s.byteSwap = m1.getLsbD 17) ∧
    let code := s.ce.drawmode0.extractLsb' 9 2
    let rgb := s.ce.drawmode1.getLsbD 4
    let channel := fun (a : W32) => BitVec.ofNat 8 (min (max (a.toInt / 65536) 0) 255).toNat
    let w := s.hostdata.extractLsb' 0 32
    (code = 0 ∨ code = 3 → fillSource s = s.ce.colori) ∧
      (code = 1 → rgb = true →
        fillSource s = pack s.depth { r := channel s.ce.red, g := channel s.ce.green, b := channel s.ce.blue }) ∧
      (code = 1 → rgb = false →
        fillSource s = BitVec.ofInt 32 (s.ce.red.toInt / 65536) &&& BitVec.ofNat 32 (2 ^ s.depth.db - 1)) ∧
      (code = 2 → fillSource s = hostSource s (if s.ce.drawmode1.getLsbD 17 then swap32 w else w))

/-- The pixel store: it changes no register and no status bit; in every plane whose PLANEMASK bit is set the pixel's cell takes
the raster operation's result under the write mask, within the low db(DEPTH) bits, provided the position lies in the clip window,
in the plane and on the stipple pattern (the row of STIPX and STIPY that PATSEL selects, where STIPEN is set and PATSEL is below
5); every other cell keeps its value (R181, R182, R183, R186). -/
def Obligations.PlotCells : Prop :=
  ∀ (s : State) (x y : Int) (src : PlaneId → W32),
    (∃ q, plot x y src s = { s with planes := q }) ∧
    ∀ p u w,
      let old := planeRead s p u w
      let ones := BitVec.ofNat 32 (2 ^ s.depth.db - 1)
      let r := rop s (src p &&& ones) (old &&& ones) &&& ones
      let high := fun (v : W32) => (v.extractLsb' 16 16).toInt
      let low := fun (v : W32) => (v.extractLsb' 0 16).toInt
      let inClip := high s.ce.clipmin ≤ x ∧ x ≤ high s.ce.clipmax ∧ low s.ce.clipmin ≤ y ∧ y ≤ low s.ce.clipmax
      let inPlane := 0 ≤ x ∧ x < s.par.fbW ∧ 0 ≤ y ∧ y < s.par.fbH
      let row := (s.ce.drawmode0.extractLsb' 13 3).toNat
      let rowX := [s.ce.stipx0, s.ce.stipx1, s.ce.stipx2, s.ce.stipx3, s.ce.stipx4].getD row 0
      let rowY := [s.ce.stipy0, s.ce.stipy1, s.ce.stipy2, s.ce.stipy3, s.ce.stipy4].getD row 0
      let onPattern := s.ce.drawmode0.getLsbD 12 = false ∨ 5 ≤ row ∨
        (rowX.getLsbD (x % 32).toNat = true ∧ rowY.getLsbD (y % 32).toNat = true)
      let stored := (u = x ∧ w = y) ∧ inClip ∧ inPlane ∧ onPattern ∧ s.ce.drawmode0.getLsbD (5 + p.num) = true
      (positionPass s x y = true ↔ inClip ∧ inPlane ∧ onPattern) ∧ (stored → planeRead (plot x y src s) p u w =
          (old &&& ~~~(s.ce.wrmask &&& ones)) ||| (r &&& (s.ce.wrmask &&& ones))) ∧
        (¬ stored → planeRead (plot x y src s) p u w = old)

/-- Bit by bit, a store changes only bits below db(DEPTH) whose WRMASK bit is 1 (R184, R197). -/
def Obligations.StoreBits : Prop :=
  ∀ (s : State) (old src : W32) (i : Nat), i < 32 →
    let ones := BitVec.ofNat 32 (2 ^ s.depth.db - 1)
    (storeValue s old src).getLsbD i =
      if i < s.depth.db ∧ s.ce.wrmask.getLsbD i = true then (rop s (src &&& ones) (old &&& ones)).getLsbD i
      else old.getLsbD i

/-- The logic operation is the truth table LOGICOP: bit i of the result is LOGICOP[3 - (2 s_i + d_i)] (R194). -/
def Obligations.LogicOpBits : Prop :=
  ∀ (op : BitVec 4) (a b : W32) (i : Nat), i < 32 →
    (logicop op a b).getLsbD i = op.getLsbD (3 - (2 * (a.getLsbD i).toNat + (b.getLsbD i).toNat))

/-- Blending: both operands are widened, each channel is min(255, (sc Fs + dc Fd + 127) div 255) with the weights of the factor
table (the reserved codes 6 and 7 weigh 0), and the result is packed (R192, R193); at the reset factors (ONE, ZERO) the source is
unchanged. The raster operation is the blend where BLEND is set in RGB mode, else the logic operation LOGICOP (R191). -/
def Obligations.BlendOneZero : Prop :=
  ∀ (s : State) (src dst : W32),
    let sfactor := (s.ce.drawmode1.extractLsb' 9 3).toNat
    let dfactor := (s.ce.drawmode1.extractLsb' 12 3).toNat
    let sa := (min (max (s.ce.alpha.toInt / 65536) 0) 255).toNat
    let fs := fun (dc : Nat) => [0, 255, sa, 255 - sa, dc, 255 - dc, 0, 0].getD sfactor 0
    let fd := fun (sc : Nat) => [0, 255, sa, 255 - sa, sc, 255 - sc, 0, 0].getD dfactor 0
    let channel := fun (sc dc : W8) =>
      BitVec.ofNat 8 (min 255 ((sc.toNat * fs dc.toNat + dc.toNat * fd sc.toNat + 127) / 255))
    let a := expand s.depth src
    let b := expand s.depth dst
    let blends := s.ce.drawmode0.getLsbD 16 = true ∧ s.ce.drawmode1.getLsbD 4 = true
    blend s src dst = pack s.depth { r := channel a.r b.r, g := channel a.g b.g, b := channel a.b b.b } ∧
      (sfactor = 1 → dfactor = 0 → src.toNat < 2 ^ s.depth.db → blend s src dst = src) ∧
      (blends → rop s src dst = blend s src dst) ∧
      (¬ blends → rop s src dst = logicop (s.ce.drawmode1.extractLsb' 5 4) src dst)

/-! ## Lines -/

/-- The stepper's positions, for all endpoints in range: after k steps it stands at the reference line's k-th position; after
step M at (X1, Y1); the dominant coordinate changes by exactly one per step and the other by zero or one; the positions are
distinct (R214, R215, R223). -/
def Obligations.LinePositions : Prop :=
  ∀ (s : State) (x0 y0 x1 y1 : Int), coordinateOk x0 → coordinateOk y0 → coordinateOk x1 → coordinateOk y1 →
    let l := lineSetup x0 y0 x1 y1
    let pos := fun k => lineRun l k (lineStart l s)
    (∀ k, k ≤ l.major → (pos k).x = l.posX k ∧ (pos k).y = l.posY k) ∧
      (pos l.major).x = x1 ∧ (pos l.major).y = y1 ∧
      (∀ k, k < l.major →
        if l.ymaj then (pos (k + 1)).y = (pos k).y + l.sy.toInt ∧
          ((pos (k + 1)).x = (pos k).x ∨ (pos (k + 1)).x = (pos k).x + l.sx.toInt)
        else (pos (k + 1)).x = (pos k).x + l.sx.toInt ∧
          ((pos (k + 1)).y = (pos k).y ∨ (pos (k + 1)).y = (pos k).y + l.sy.toInt)) ∧
      ∀ j k, j < k → k ≤ l.major → ¬ ((pos j).x = (pos k).x ∧ (pos j).y = (pos k).y)

/-- LINE draws the reference line and nothing else: the k-th position takes the source value the accumulators give after k
advances, in each enabled plane, if it passes its tests; every cell that is no position of the line keeps its value (R215, R216,
R218). -/
def Obligations.LineDraws : Prop :=
  ∀ (c d : Bool) (s : State), ∃ t, exec (.line c d) s = .next t ∧
    let l := lineSetup s.x0 s.y0 s.x1 s.y1
    let n := l.visits s.endpt
    (∀ k, k < n → ∀ p, planeRead t p (l.posX k) (l.posY k) =
      if positionPass s (l.posX k) (l.posY k) = true ∧ s.planeEnabled p = true
      then storeValue (s.advancedBy k) (planeRead s p (l.posX k) (l.posY k)) (fillSource (s.advancedBy k))
      else planeRead s p (l.posX k) (l.posY k)) ∧
    ∀ p u w, (∀ k, k < n → ¬ (u = l.posX k ∧ w = l.posY k)) → planeRead t p u w = planeRead s p u w

/-- What a LINE leaves in the registers: the setup's octant and increments, BRES_ERR as after the last step, BRES_COUNT 0, CURXY
= (X1, Y1), the accumulators advanced once per position it draws; the coordinates and everything else are unchanged, but an
active transfer ends (R212, R220, R221). -/
def Obligations.LineRegisters : Prop :=
  ∀ (c d : Bool) (s : State), ∃ t, exec (.line c d) s = .next t ∧
    let dx := s.x1 - s.x0
    let dy := s.y1 - s.y0
    let ymaj := decide (dx.natAbs < dy.natAbs)
    let major : Int := if ymaj then dy.natAbs else dx.natAbs
    let minor : Int := if ymaj then dx.natAbs else dy.natAbs
    t = { s.transferEnded with
          planes := t.planes,
          ce := { (s.advancedBy ((lineSetup s.x0 s.y0 s.x1 s.y1).visits s.endpt)).ce with
            bresOctant := 0#29 ++ BitVec.ofBool (decide (dy < 0)) ++ BitVec.ofBool (decide (dx < 0)) ++ BitVec.ofBool ymaj,
            bresInc1 := BitVec.ofInt 32 (2 * minor), bresInc2 := BitVec.ofInt 32 (2 * minor - 2 * major),
            bresErr := BitVec.ofInt 32 (2 * minor - major), bresCount := 0,
            curxy := BitVec.ofInt 16 s.x1 ++ BitVec.ofInt 16 s.y1 } }

/-- A zero-length line writes no pixel, whatever ENDPT holds; the accumulators do not advance, the BRES registers become 0 and
CURXY becomes (X0, Y0) (R217). -/
def Obligations.LineZeroLength : Prop :=
  ∀ (c d : Bool) (s : State), s.x1 = s.x0 → s.y1 = s.y0 →
    exec (.line c d) s =
      .next { s.transferEnded with
        ce := { s.ce with
          bresErr := 0, bresInc1 := 0, bresInc2 := 0, bresCount := 0, bresOctant := 0,
          curxy := BitVec.ofInt 16 s.x0 ++ BitVec.ofInt 16 s.y0 } }

/-! ## Blocks -/

/-- BLOCK fill: the position in column i of row j is the (j w + i)-th visited; it takes the source value the accumulators give
after as many advances, in each enabled plane, if it passes its tests; every cell outside the rectangle keeps its value; CURXY
becomes (X1, Y1), the accumulators have advanced once per position, nothing else changes but an active transfer, which ends
(R159, R161, R162, R163). -/
def Obligations.BlockFillDraws : Prop :=
  ∀ (d : Bool) (s : State), ∃ t, exec (.blockFill d) s = .next t ∧
    let w := (s.x1 - s.x0).natAbs + 1
    let h := (s.y1 - s.y0).natAbs + 1
    (∀ i j, i < w → j < h → ∀ p,
      let x := toward s.x0 s.x1 i
      let y := toward s.y0 s.y1 j
      let r := s.advancedBy (j * w + i)
      planeRead t p x y =
        if positionPass s x y = true ∧ s.planeEnabled p = true then storeValue r (planeRead s p x y) (fillSource r)
        else planeRead s p x y) ∧
    (∀ p u v, ¬ (within s.x0 s.x1 u ∧ within s.y0 s.y1 v) → planeRead t p u v = planeRead s p u v) ∧
    t = { s.transferEnded with
          planes := t.planes,
          ce := { (s.advancedBy (w * h)).ce with curxy := BitVec.ofInt 16 s.x1 ++ BitVec.ofInt 16 s.y1 } }

/-- BLOCK copy changes no cell outside the destination rectangle and no register but CURXY; where source and destination do not
overlap, each destination cell of each enabled plane takes its source cell's low db(DEPTH) bits through the raster operation, if
the destination passes its tests. Overlapping or not, the copy is w h visits in the order of R159: the k-th stores at its
destination the source cell as the first k visits left it, and changes nothing else (R159, R160, R162). -/
def Obligations.BlockCopyCopies : Prop :=
  ∀ (d : Bool) (s : State), ∃ t, exec (.blockCopy d) s = .next t ∧
    t = { s.transferEnded with
          planes := t.planes, ce := { s.ce with curxy := BitVec.ofInt 16 s.x1 ++ BitVec.ofInt 16 s.y1 } } ∧
    (∀ p u v, ¬ (within s.x0 s.x1 (u - s.moveX) ∧ within s.y0 s.y1 (v - s.moveY)) →
      planeRead t p u v = planeRead s p u v) ∧
    ((∀ u v, within s.x0 s.x1 u → within s.y0 s.y1 v →
        ¬ (within s.x0 s.x1 (u - s.moveX) ∧ within s.y0 s.y1 (v - s.moveY))) →
      ∀ p u v, within s.x0 s.x1 u → within s.y0 s.y1 v →
        let x := u + s.moveX
        let y := v + s.moveY
        planeRead t p x y =
          if positionPass s x y = true ∧ s.planeEnabled p = true
          then storeValue s (planeRead s p x y) (planeRead s p u v &&& BitVec.ofNat 32 (2 ^ s.depth.db - 1))
          else planeRead s p x y) ∧
    let w := (s.x1 - s.x0).natAbs + 1
    let h := (s.y1 - s.y0).natAbs + 1
    ∃ q : Nat → State, q 0 = s.transferEnded ∧ t.planes = (q (w * h)).planes ∧
      ∀ k, k < w * h →
        let x := toward s.x0 s.x1 (k % w)
        let y := toward s.y0 s.y1 (k / w)
        q (k + 1) = { q k with planes := (q (k + 1)).planes } ∧
          (q k).storedAt (q (k + 1)) (x + s.moveX) (y + s.moveY)
            (fun p => planeRead (q k) p x y &&& BitVec.ofNat 32 (2 ^ s.depth.db - 1))

/-! ## Pixel formats -/

/-- The round trip through code k2 reproduces every value of code k1 exactly when k2 has at least as many bits (R237). -/
def Obligations.ConversionRoundTrip : Prop :=
  ∀ k1 k2 : Depth,
    (∀ v : W32, v.toNat < 2 ^ k1.db → convert k2 k1 (convert k1 k2 v) = v) ↔ k1.db ≤ k2.db

/-- The pixel formats: the bits of each depth code and its fields in storage order (blue above green above red) and in host order
(red above green above blue), which to_host and from_host exchange, each undoing the other (R231, R232, R233); widening by
replication in closed form, narrowing by truncation, conversion as the one after the other, with the vectors of R236 (R234, R235,
R236); the conversions of a host pixel word and of a cell (R190, R239); the byte swap, which undoes itself (R238). -/
def Obligations.PixelFormatLaws : Prop :=
  ((∀ v, v < 2 → (rep v 1).toNat = 0xFF * v) ∧ (∀ v, v < 4 → (rep v 2).toNat = 0x55 * v) ∧
    (∀ v, v < 8 → (rep v 3).toNat = (v <<< 5) ||| (v <<< 2) ||| (v >>> 1)) ∧
    (∀ v, v < 16 → (rep v 4).toNat = 0x11 * v) ∧ (∀ v, v < 256 → (rep v 8).toNat = v)) ∧
  ([0#2, 1#2, 2#2, 3#2].map Depth.ofBits = [.d4, .d8, .d12, .d24] ∧ [Depth.d4, .d8, .d12, .d24].map Depth.db = [4, 8, 12, 24]) ∧
  (∀ v : W32,
    let bits := fun lo n => (v.extractLsb' lo n).toNat
    expand .d4 v = { r := rep (bits 0 1) 1, g := rep (bits 1 2) 2, b := rep (bits 3 1) 1 } ∧
      expand .d8 v = { r := rep (bits 0 3) 3, g := rep (bits 3 3) 3, b := rep (bits 6 2) 2 } ∧
      expand .d12 v = { r := rep (bits 0 4) 4, g := rep (bits 4 4) 4, b := rep (bits 8 4) 4 } ∧
      expand .d24 v = { r := rep (bits 0 8) 8, g := rep (bits 8 8) 8, b := rep (bits 16 8) 8 }) ∧
  (∀ c : Rgb8,
    pack .d4 c = 0#28 ++ c.b.extractLsb' 7 1 ++ c.g.extractLsb' 6 2 ++ c.r.extractLsb' 7 1 ∧
      pack .d8 c = 0#24 ++ c.b.extractLsb' 6 2 ++ c.g.extractLsb' 5 3 ++ c.r.extractLsb' 5 3 ∧
      pack .d12 c = 0#20 ++ c.b.extractLsb' 4 4 ++ c.g.extractLsb' 4 4 ++ c.r.extractLsb' 4 4 ∧
      pack .d24 c = 0#8 ++ c.b ++ c.g ++ c.r) ∧
  (∀ v : W32,
    toHost .d4 v = 0#28 ++ v.extractLsb' 0 1 ++ v.extractLsb' 1 2 ++ v.extractLsb' 3 1 ∧
      toHost .d8 v = 0#24 ++ v.extractLsb' 0 3 ++ v.extractLsb' 3 3 ++ v.extractLsb' 6 2 ∧
      toHost .d12 v = 0#20 ++ v.extractLsb' 0 4 ++ v.extractLsb' 4 4 ++ v.extractLsb' 8 4 ∧
      toHost .d24 v = 0#8 ++ v.extractLsb' 0 8 ++ v.extractLsb' 8 8 ++ v.extractLsb' 16 8 ∧
      fromHost .d4 v = 0#28 ++ v.extractLsb' 0 1 ++ v.extractLsb' 1 2 ++ v.extractLsb' 3 1 ∧
      fromHost .d8 v = 0#24 ++ v.extractLsb' 0 2 ++ v.extractLsb' 2 3 ++ v.extractLsb' 5 3 ∧
      fromHost .d12 v = 0#20 ++ v.extractLsb' 0 4 ++ v.extractLsb' 4 4 ++ v.extractLsb' 8 4 ∧
      fromHost .d24 v = 0#8 ++ v.extractLsb' 0 8 ++ v.extractLsb' 8 8 ++ v.extractLsb' 16 8) ∧
  (∀ (k : Depth) (v : W32), v.toNat < 2 ^ k.db → fromHost k (toHost k v) = v ∧ toHost k (fromHost k v) = v) ∧
  (∀ (j k : Depth) (v : W32), convert j k v = pack k (expand j v) ∧ (v.toNat < 2 ^ k.db → convert k k v = v)) ∧
  (∀ e ∈ ([(.d4, .d24, 0x1, 0x0000FF), (.d4, .d24, 0x6, 0x00FF00), (.d4, .d24, 0x8, 0xFF0000), (.d4, .d24, 0xF, 0xFFFFFF),
      (.d8, .d24, 0x5A, 0x556D49), (.d12, .d24, 0xABC, 0xAABBCC), (.d24, .d4, 0xFF8080, 0xD), (.d24, .d8, 0x123456, 0x0A),
      (.d24, .d8, 0x80FF7F, 0xBB), (.d24, .d12, 0x123456, 0x135), (.d24, .d12, 0xABCDEF, 0xACE), (.d8, .d4, 0x5A, 0x2),
      (.d4, .d8, 0x5, 0x2F), (.d4, .d12, 0x9, 0xF0F), (.d12, .d8, 0x8C4, 0xB2)] : List (Depth × Depth × W32 × W32)),
    convert e.1 e.2.1 e.2.2.1 = e.2.2.2) ∧
  (∀ (s : State) (w : W32),
    let d := s.depth
    let h := s.hostDepth
    let low := fun (k : Depth) (v : W32) => v &&& BitVec.ofNat 32 (2 ^ k.db - 1)
    (s.ce.drawmode1.getLsbD 4 = true →
      hostSource s w = convert h d (fromHost h (low h w)) ∧ cellToHost s w = toHost h (convert d h (low d w))) ∧
    (s.ce.drawmode1.getLsbD 4 = false → hostSource s w = low d (low h w) ∧ cellToHost s w = low h (low d w))) ∧
  ∀ w : W32, swap32 w = w.extractLsb' 0 8 ++ w.extractLsb' 8 8 ++ w.extractLsb' 16 8 ++ w.extractLsb' 24 8 ∧
    swap32 (swap32 w) = w

/-! ## Sub-devices -/

/-- The register table of each PMR: what a DCB write of DCBDATA0 stores, what a DCB read puts there; MODE_DATA stores at
MODE_INDEX and advances it modulo 32, reads without advancing; REVISION and FIFOAVAIL ignore writes and read the construction
parameters; nothing else changes (R252, R254, R256). -/
def Obligations.PmrRegisters : Prop :=
  ∀ (i : Inst) (s : State),
    let v := s.ce.dcbdata0
    let p := s.pmr i
    exec (i.pick .dcbwPmr0Config .dcbwPmr1Config) s = .next (s.answered.setPmr i { p with config := v.setWidth 8 &&& 1 }) ∧
      exec (i.pick .dcbwPmr0Revision .dcbwPmr1Revision) s = .next s.answered ∧
      exec (i.pick .dcbwPmr0Fifoavail .dcbwPmr1Fifoavail) s = .next s.answered ∧
      exec (i.pick .dcbwPmr0CursorCmap .dcbwPmr1CursorCmap) s =
        .next (s.answered.setPmr i { p with cursorCmap := v.setWidth 5 }) ∧
      exec (i.pick .dcbwPmr0PopupCmap .dcbwPmr1PopupCmap) s =
        .next (s.answered.setPmr i { p with popupCmap := v.setWidth 5 }) ∧
      exec (i.pick .dcbwPmr0ModeIndex .dcbwPmr1ModeIndex) s =
        .next (s.answered.setPmr i { p with modeIndex := v.setWidth 5 }) ∧
      (∃ t, exec (i.pick .dcbwPmr0ModeData .dcbwPmr1ModeData) s = .next t ∧
        t = s.answered.setPmr i { p with mode := (t.pmr i).mode, modeIndex := p.modeIndex + 1 } ∧
        ∀ j, modeTableEntry t i j = if j % 32 = p.modeIndex.toNat then v.setWidth 8 else modeTableEntry s i j) ∧
      exec (i.pick .dcbrPmr0Config .dcbrPmr1Config) s = .next (s.answeredWith (p.config.setWidth 32)) ∧
      exec (i.pick .dcbrPmr0Revision .dcbrPmr1Revision) s = .next (s.answeredWith s.par.pmrRevision) ∧
      exec (i.pick .dcbrPmr0Fifoavail .dcbrPmr1Fifoavail) s = .next (s.answeredWith s.par.fifoDepth) ∧
      exec (i.pick .dcbrPmr0CursorCmap .dcbrPmr1CursorCmap) s = .next (s.answeredWith (p.cursorCmap.setWidth 32)) ∧
      exec (i.pick .dcbrPmr0PopupCmap .dcbrPmr1PopupCmap) s = .next (s.answeredWith (p.popupCmap.setWidth 32)) ∧
      exec (i.pick .dcbrPmr0ModeIndex .dcbrPmr1ModeIndex) s = .next (s.answeredWith (p.modeIndex.setWidth 32)) ∧
      exec (i.pick .dcbrPmr0ModeData .dcbrPmr1ModeData) s =
        .next (s.answeredWith ((modeTableEntry s i p.modeIndex.toNat).setWidth 32))

/-- The register table of each CLUT: an INDEX write wraps at the capacity, a DATA write stores the low 24 bits at INDEX and
advances it, a DATA read gives the entry without advancing, REVISION ignores writes and reads the construction parameter; nothing
else changes (R272 to R277). -/
def Obligations.ClutRegisters : Prop :=
  ∀ (c : Inst) (s : State),
    let v := s.ce.dcbdata0
    let k := s.clut c
    let n := s.par.clutEntries
    exec (c.pick .dcbwClut0Index .dcbwClut1Index) s = .next (s.answered.setClut c { k with index := v.toNat % n }) ∧
      (∃ t, exec (c.pick .dcbwClut0Data .dcbwClut1Data) s = .next t ∧
        t = s.answered.setClut c { index := (k.index + 1) % n, table := (t.clut c).table } ∧
        ∀ i, clutEntry t c i = if i % n = k.index % n then v.setWidth 24 else clutEntry s c i) ∧
      exec (c.pick .dcbwClut0Revision .dcbwClut1Revision) s = .next s.answered ∧
      exec (c.pick .dcbrClut0Index .dcbrClut1Index) s = .next (s.answeredWith (BitVec.ofNat 32 k.index)) ∧
      exec (c.pick .dcbrClut0Data .dcbrClut1Data) s = .next (s.answeredWith ((clutEntry s c k.index).setWidth 32)) ∧
      exec (c.pick .dcbrClut0Revision .dcbrClut1Revision) s = .next (s.answeredWith s.par.clutRevision)

/-- The palette property: after the index is set to K, N DATA writes fill slots K to K + N - 1 modulo the table size, a later
write overwriting an earlier one, leave every other slot alone, and leave the index at (K + N) modulo the table size (R281). -/
def Obligations.ClutAutoIncrement : Prop :=
  ∀ (c : Inst) (k : W32) (vs : List W32) (s : State), 0 < s.par.clutEntries →
    let n := s.par.clutEntries
    let t := clutBurst c vs (clutWrite c 0 k s)
    (t.clut c).index = (k.toNat + vs.length) % n ∧
      (∀ j (h : j < vs.length), (∀ j', j < j' → j' < vs.length → (k.toNat + j') % n ≠ (k.toNat + j) % n) →
        clutEntry t c ((k.toNat + j) % n) = (vs[j]).setWidth 24) ∧
      ∀ i, i < n → (∀ j, j < vs.length → (k.toNat + j) % n ≠ i) → clutEntry t c i = clutEntry s c i

/-- The register table of the TG but for RAM_DATA: a write stores the low 16 bits, DISPLAY_CTRL's bits 15:5 forced to 0; the
pointers of the timing tables and DISPLAY_CTRL set dirty, the others leave it; REVISION ignores writes; a read gives the register
zero-extended; nothing else changes (R291, R292, R295). -/
def Obligations.TgRegisters : Prop :=
  ∀ s : State,
    let v : W16 := s.ce.dcbdata0.setWidth 16
    let stores := fun (g : Tg) => { s.answered with tg := g }
    exec .dcbwTgVtFramePtr s = .next (stores { s.tg with vtFramePtr := v, dirty := true }) ∧
      exec .dcbwTgVtLinePtr s = .next (stores { s.tg with vtLinePtr := v, dirty := true }) ∧
      exec .dcbwTgDidFramePtr s = .next (stores { s.tg with didFramePtr := v, dirty := true }) ∧
      exec .dcbwTgCursorGlyphPtr s = .next (stores { s.tg with cursorGlyphPtr := v }) ∧
      exec .dcbwTgCursorX s = .next (stores { s.tg with cursorX := v }) ∧
      exec .dcbwTgCursorY s = .next (stores { s.tg with cursorY := v }) ∧
      exec .dcbwTgDisplayCtrl s = .next (stores { s.tg with displayCtrl := v &&& 0x001F, dirty := true }) ∧
      exec .dcbwTgVintLine s = .next (stores { s.tg with vintLine := v }) ∧
      exec .dcbwTgRamAddr s = .next (stores { s.tg with ramAddr := v }) ∧
      exec .dcbwTgRevision s = .next s.answered ∧
      exec .dcbrTgVtFramePtr s = .next (s.answeredWith (s.tg.vtFramePtr.setWidth 32)) ∧
      exec .dcbrTgVtLinePtr s = .next (s.answeredWith (s.tg.vtLinePtr.setWidth 32)) ∧
      exec .dcbrTgDidFramePtr s = .next (s.answeredWith (s.tg.didFramePtr.setWidth 32)) ∧
      exec .dcbrTgCursorGlyphPtr s = .next (s.answeredWith (s.tg.cursorGlyphPtr.setWidth 32)) ∧
      exec .dcbrTgCursorX s = .next (s.answeredWith (s.tg.cursorX.setWidth 32)) ∧
      exec .dcbrTgCursorY s = .next (s.answeredWith (s.tg.cursorY.setWidth 32)) ∧
      exec .dcbrTgDisplayCtrl s = .next (s.answeredWith (s.tg.displayCtrl.setWidth 32)) ∧
      exec .dcbrTgVintLine s = .next (s.answeredWith (s.tg.vintLine.setWidth 32)) ∧
      exec .dcbrTgRamAddr s = .next (s.answeredWith (s.tg.ramAddr.setWidth 32)) ∧
      exec .dcbrTgRevision s = .next (s.answeredWith ((s.par.tgRevision.setWidth 16).setWidth 32))

/-- RAM_DATA: a write stores the low 16 bits at RAM_ADDR modulo TRAM_WORDS, leaves every other word alone, advances RAM_ADDR
modulo TRAM_WORDS and sets dirty; a read gives that word and advances RAM_ADDR too, leaving dirty (R294, R295). -/
def Obligations.TgRamData : Prop :=
  ∀ s : State,
    let n := s.par.tramWords
    let next : W16 := BitVec.ofNat 16 ((s.tg.ramAddr.toNat + 1) % n)
    (∃ t, exec .dcbwTgRamData s = .next t ∧
      t = { s.answered with tram := t.tram, tg := { s.tg with ramAddr := next, dirty := true } } ∧
      ∀ a, tramRead t a = if a % n = s.tg.ramAddr.toNat % n then s.ce.dcbdata0.setWidth 16 else tramRead s a) ∧
    exec .dcbrTgRamData s =
      .next { s.answeredWith ((tramRead s s.tg.ramAddr.toNat).setWidth 32) with tg := { s.tg with ramAddr := next } }

/-- The analogue output stage and the two latches: a write stores all 32 bits in the register selected and in no other, a read
gives it back (R346). -/
def Obligations.AuxRegisters : Prop :=
  ∀ (k : BitVec 4) (s : State),
    let wrote := fun (old new : AuxRegs) =>
      ∀ j : Fin 16, new.get j = if j = k.toFin then s.ce.dcbdata0 else old.get j
    (∃ t, exec (.dcbwAnalogR k) s = .next t ∧ t = { s.answered with analog := t.analog } ∧ wrote s.analog t.analog) ∧
      (∃ t, exec (.dcbwLatch0R k) s = .next t ∧ t = { s.answered with latch0 := t.latch0 } ∧ wrote s.latch0 t.latch0) ∧
      (∃ t, exec (.dcbwLatch1R k) s = .next t ∧ t = { s.answered with latch1 := t.latch1 } ∧ wrote s.latch1 t.latch1) ∧
      exec (.dcbrAnalogR k) s = .next (s.answeredWith (s.analog.get k.toFin)) ∧
      exec (.dcbrLatch0R k) s = .next (s.answeredWith (s.latch0.get k.toFin)) ∧
      exec (.dcbrLatch1R k) s = .next (s.answeredWith (s.latch1.get k.toFin))

/-- A reserved register select of a responding slave is answered: a write is ignored, a read gives 0, and no timeout is armed
(R334). -/
def Obligations.ReservedSelects : Prop :=
  ∀ (a : BitVec 2) (b : BitVec 3) (s : State),
    (∀ i ∈ [Instr.dcbwTgReserved11, .dcbwTgReserved12to15 a,
        .dcbwClut01Reserved3, .dcbwClut01Reserved4to7 a, .dcbwClut01Reserved8to15 b,
        .dcbwClut0Reserved3, .dcbwClut0Reserved4to7 a, .dcbwClut0Reserved8to15 b,
        .dcbwClut1Reserved3, .dcbwClut1Reserved4to7 a, .dcbwClut1Reserved8to15 b,
        .dcbwPmr01Reserved7, .dcbwPmr01Reserved8to15 b, .dcbwPmr0Reserved7, .dcbwPmr0Reserved8to15 b,
        .dcbwPmr1Reserved7, .dcbwPmr1Reserved8to15 b], exec i s = .next s.answered) ∧
    (∀ i ∈ [Instr.dcbrTgReserved11, .dcbrTgReserved12to15 a,
        .dcbrClut01Reserved3, .dcbrClut01Reserved4to7 a, .dcbrClut01Reserved8to15 b,
        .dcbrClut0Reserved3, .dcbrClut0Reserved4to7 a, .dcbrClut0Reserved8to15 b,
        .dcbrClut1Reserved3, .dcbrClut1Reserved4to7 a, .dcbrClut1Reserved8to15 b,
        .dcbrPmr01Reserved7, .dcbrPmr01Reserved8to15 b, .dcbrPmr0Reserved7, .dcbrPmr0Reserved8to15 b,
        .dcbrPmr1Reserved7, .dcbrPmr1Reserved8to15 b], exec i s = .next (s.answeredWith 0))

/-- A write at a paired sub-address (CLUT01, PMR01) is the write at instance 0 followed by the write at instance 1, in one step;
a read is instance 0's read (R251, R279, R344). -/
def Obligations.PairedAliases : Prop :=
  ∀ (r : BitVec 4) (s : State),
    (∃ t u, exec (decodeDcb (1#1 ++ 2#4 ++ r)) s = .next t ∧ exec (decodeDcb (1#1 ++ 3#4 ++ r)) t = .next u ∧
      exec (decodeDcb (1#1 ++ 1#4 ++ r)) s = .next u) ∧
    (∃ t u, exec (decodeDcb (1#1 ++ 5#4 ++ r)) s = .next t ∧ exec (decodeDcb (1#1 ++ 6#4 ++ r)) t = .next u ∧
      exec (decodeDcb (1#1 ++ 4#4 ++ r)) s = .next u) ∧
    (∃ t, exec (decodeDcb (0#1 ++ 2#4 ++ r)) s = .next t ∧ exec (decodeDcb (0#1 ++ 1#4 ++ r)) s = .next t) ∧
    (∃ t, exec (decodeDcb (0#1 ++ 5#4 ++ r)) s = .next t ∧ exec (decodeDcb (0#1 ++ 4#4 ++ r)) s = .next t)

/-- An access to a sub-address with no component arms the timeout, cancelling any outstanding one first, and changes nothing
else: DCBDATA0 keeps its value (R335, R336, R338). The timeout event, enabled while an access is pending, abandons the access and
sets STATUS.DCBTMO; nothing else changes, no signal included (R341). -/
def Obligations.DcbTimeout : Prop :=
  ∀ (a : BitVec 5) (b : BitVec 6) (s : State),
    (∀ i ∈ [Instr.dcbwNone10to11 a, .dcbwNone12to15 b, .dcbrNone10to11 a, .dcbrNone12to15 b],
      exec i s = .next { s with dcbPending := true }) ∧
    (s.dcbPending = true → exec .dcbTimeout s = .next { s with dcbPending := false, dcbtmo := true })

/-! ## The display-refresh queries -/

/-- Decoding one timing table, terminated or as long as the bounded walk: no window where no run is visible, else from the start
of the first visible run to the end of the last, the runs covering positions 0, 1, 2, … in order (R298). The active window: y0 and
y1 are the frame table's, x0 and x1 the line table's; where either table shows no visible run it is (0, 0, -1, -1) (R299). -/
def Obligations.TimingTableDecode : Prop :=
  ∀ s : State,
    (∀ (ptr : W16) (n : Nat), n ≤ s.par.tramWords / 2 →
      let len := fun k => (tramRead s (ptr.toNat + 2 * k)).toNat
      let visible := fun k => (tramRead s (ptr.toNat + 2 * k + 1)).getLsbD 15
      let start := fun k => ((List.range k).map len).sum
      (∀ k, k < n → len k ≠ 0) → n = s.par.tramWords / 2 ∨ len n = 0 →
        ((∀ k, k < n → visible k = false) → decodeAxis s ptr = none) ∧
        ∀ f l, f < n → l < n → visible f = true → visible l = true → (∀ k, k < f → visible k = false) →
          (∀ k, l < k → k < n → visible k = false) → decodeAxis s ptr = some (start f, start l + len l - 1)) ∧
    let frame := decodeAxis s s.tg.vtFramePtr
    let line := decodeAxis s s.tg.vtLinePtr
    (frame = none ∨ line = none → decodeWindow s = { x0 := 0, y0 := 0, x1 := -1, y1 := -1 }) ∧
      ∀ y0 y1 x0 x1 : Nat, frame = some (y0, y1) → line = some (x0, x1) →
        decodeWindow s = { x0 := x0, y0 := y0, x1 := x1, y1 := y1 }

/-- The readout queries: each decodes first where the TG is dirty, with one TIMING_CHANGED edge, and gives its side of the window
(R300, R301). -/
def Obligations.Readouts : Prop :=
  ∀ s : State,
    let gives := fun (v : Int) => Host.Outcome.next { s.decoded with out := s.decoded.out ++ [.readout v] }
    exec .readoutX0 s = gives s.currentWindow.x0 ∧ exec .readoutY0 s = gives s.currentWindow.y0 ∧
      exec .readoutX1 s = gives s.currentWindow.x1 ∧ exec .readoutY1 s = gives s.currentWindow.y1

/-- begin_did_line: it decodes where dirty, raises VINT at VINT_LINE with VINT_EN (after TIMING_CHANGED), then, with DID_EN,
restarts the line cursor at the scanline's list and gives its first entry, else ends it and gives NONE. next_did_line_entry: NONE
at the end of a list or at its terminator, else the entry, the cursor moving on modulo TRAM_WORDS (R306, R307, R321). Beyond
scanline 65535 the spec states no line pointer: there the list is at some word, whichever, and all else is the same (log 23, the
model's choice). -/
def Obligations.DidLines : Prop :=
  ∀ s : State,
    (∀ y,
      let hit := s.tg.displayCtrl.getLsbD 4 && decide (y = s.tg.vintLine.toNat)
      let d := { s.decoded with vint := s.vint || hit, out := s.decoded.out ++ (if hit then [Output.vint] else []) }
      (s.tg.displayCtrl.getLsbD 3 = false →
        exec (.beginDidLine y) s =
          .next { d with tg := { d.tg with lcEnd := true }, out := d.out ++ [Output.didEntry none] }) ∧
      (s.tg.displayCtrl.getLsbD 3 = true → y ≤ 65535 →
        ∃ t, exec .nextDidLineEntry
            { d with
              tg := { d.tg with
                lc := (tramRead s (s.tg.didFramePtr.toNat + y)).toNat % s.par.tramWords, lcEnd := false } } = .next t ∧
          exec (.beginDidLine y) s = .next t) ∧
      (s.tg.displayCtrl.getLsbD 3 = true → 65535 < y →
        ∃ (p : W16) (t : State), exec .nextDidLineEntry
            { d with
              lineDraws := s.lineDraws + 1,
              tg := { d.tg with lc := p.toNat % s.par.tramWords, lcEnd := false } } = .next t ∧
          exec (.beginDidLine y) s = .next t)) ∧
    (let w := tramRead s s.tg.lc
     (s.tg.lcEnd = true → exec .nextDidLineEntry s = .next { s with out := s.out ++ [.didEntry none] }) ∧
     (s.tg.lcEnd = false → w = 0xFFFF →
       exec .nextDidLineEntry s =
         .next { s with tg := { s.tg with lcEnd := true }, out := s.out ++ [.didEntry none] }) ∧
     (s.tg.lcEnd = false → w ≠ 0xFFFF →
       exec .nextDidLineEntry s =
         .next { s with
           tg := { s.tg with lc := (s.tg.lc + 1) % s.par.tramWords },
           out := s.out ++ [.didEntry (some (w.extractLsb' 5 11, w.extractLsb' 0 5))] }))

/-- did_for(y, x): mode 0 with DID_EN clear; else the DID of the last entry of the scanline's list, in list order, whose XSTART is
at most x, and mode 0 where there is none; it changes no state (R308). -/
def Obligations.DidForLastEntry : Prop :=
  ∀ (y x : Int) (s : State),
    let d := didAt s y x
    exec (.didFor y x) s = .next { s with out := s.out ++ [.did d] } ∧
    (s.tg.displayCtrl.getLsbD 3 = false → d = 0) ∧
    ∀ n, s.tg.displayCtrl.getLsbD 3 = true → n ≤ s.par.tramWords →
      let entry := fun k => tramRead s (didListAddr s y + k)
      (∀ k, k < n → entry k ≠ 0xFFFF) → n = s.par.tramWords ∨ entry n = 0xFFFF →
        ((∀ k, k < n → x < ((entry k).extractLsb' 5 11).toNat) → d = 0) ∧
        ∀ k, k < n → ((entry k).extractLsb' 5 11).toNat ≤ x →
          (∀ j, k < j → j < n → x < ((entry j).extractLsb' 5 11).toNat) → d = (entry k).extractLsb' 0 5

/-- The cursor: none while disabled; in glyph mode the colour where the glyph's bit is set, inside [CX, CX+S) x [CY, CY+S); in
crosshair mode on the cursor's own row and column, inside the footprint centred on it; outside the footprint none; the colour is
entry 1 of the cursor's colormap bank; no state changes (R312 to R316). -/
def Obligations.CursorPixel : Prop :=
  ∀ (x y : Int) (s : State),
    let c := cursorAt s x y
    exec (.getCursorPixel x y) s = .next { s with out := s.out ++ [.cursor c] } ∧
    let size : Nat := if s.tg.displayCtrl.getLsbD 2 then 64 else 32
    let half : Int := size / 2
    let cx := s.tg.cursorX.toInt
    let cy := s.tg.cursorY.toInt
    let rgb := clutEntry s .zero (s.pmr0.cursorCmap.toNat * 256 + 1)
    let inGlyph := cx ≤ x ∧ x < cx + size ∧ cy ≤ y ∧ y < cy + size
    let inCross := cx - half ≤ x ∧ x < cx + half ∧ cy - half ≤ y ∧ y < cy + half
    (s.tg.displayCtrl.getLsbD 0 = false → c = none) ∧
    (s.tg.displayCtrl.getLsbD 0 = true → s.tg.displayCtrl.getLsbD 1 = false →
      (¬ inGlyph → c = none) ∧
      (inGlyph →
        let col := (x - cx).toNat
        let row := (y - cy).toNat
        let word := tramRead s (s.tg.cursorGlyphPtr.toNat + row * (size / 16) + col / 16)
        (word.getLsbD (15 - col % 16) = true → c = some rgb) ∧ (word.getLsbD (15 - col % 16) = false → c = none))) ∧
    (s.tg.displayCtrl.getLsbD 0 = true → s.tg.displayCtrl.getLsbD 1 = true →
      (inCross ∧ (x = cx ∨ y = cy) → c = some rgb) ∧ (¬ (inCross ∧ (x = cx ∨ y = cy)) → c = none))

/-- display_pixel: black outside the active window; inside it the cursor first, then the pop-up plane's low two bits where they
are not 0, then the primary cell through the entry of PMR[0]'s mode table that its DID selects: the cell's low bits by the entry's
depth class, and 8 of them at most with BPP8, are an index into the entry's colormap bank where CMAP is set, else the colour
itself, widened, red first; nothing changes but the decode cache (R259, R323, R326, R327). -/
def Obligations.DisplayPixel : Prop :=
  ∀ (x y : Int) (s : State), ∃ rgb,
    exec (.displayPixel x y) s = .next { s.decoded with out := s.decoded.out ++ [.pixel rgb] } ∧
    let w := s.currentWindow
    let inside := 0 ≤ x ∧ x ≤ w.x1 - w.x0 ∧ 0 ≤ y ∧ y ≤ w.y1 - w.y0
    let pv := planeRead s .popup x y &&& 0x3
    (¬ inside → rgb = 0) ∧
    (inside →
      (∀ q, cursorAt s x y = some q → rgb = q) ∧
      (cursorAt s x y = none → pv ≠ 0 → rgb = clutEntry s .zero (s.pmr0.popupCmap.toNat * 256 + pv.toNat)) ∧
      (cursorAt s x y = none → pv = 0 →
        let e := modeTableEntry s .zero (didAt s y x).toNat
        let k := Depth.ofBits (e.extractLsb' 0 2)
        let low := planeRead s .primary x y &&& BitVec.ofNat 32 (2 ^ k.db - 1)
        let v := if s.pmr0.config.getLsbD 0 then low &&& 0xFF else low
        (e.getLsbD 2 = true → rgb = clutEntry s .zero ((e.extractLsb' 3 5).toNat * 256 + v.toNat)) ∧
          (e.getLsbD 2 = false → rgb = (expand k v).r ++ (expand k v).g ++ (expand k v).b)))

/-- The queries of the PMR and the CLUT answer from PMR[0] and from the named CLUT and change no state: the BPP8 bit, the two
colormap banks, a mode-table entry's fields, the whole table of `palette_base` entry by entry (R253, R255, R257, R280). -/
def Obligations.PmrAndClutQueries : Prop :=
  ∀ s : State,
    exec .is8bpp s = .next { s with out := s.out ++ [.flag (s.pmr0.config.getLsbD 0)] } ∧
      exec .cursorCmap s = .next { s with out := s.out ++ [.bank s.pmr0.cursorCmap] } ∧
      exec .popupCmap s = .next { s with out := s.out ++ [.bank s.pmr0.popupCmap] } ∧
      (∀ j, let e := modeTableEntry s .zero (j % 32)
        exec (.modeEntry j) s =
          .next { s with out := s.out ++ [.modeEntry (e.extractLsb' 3 5) (e.getLsbD 2) (e.extractLsb' 0 2)] }) ∧
      ∀ c : Inst, ∃ t : List W24, exec (.paletteBase c.num) s = .next { s with out := s.out ++ [.palette t] } ∧
        t.length = s.par.clutEntries ∧ ∀ i, i < s.par.clutEntries → t[i]? = some (clutEntry s c i)

/-- The queries complete and change nothing but the line cursor, the decode cache, what they give out and, begin_did_line alone,
STATUS.VINT (R309) and the model's own count of drawn line pointers (log 23), this only beyond scanline 65535. -/
def Obligations.QueriesFrame : Prop :=
  ∀ (q : Query) (i : Instr) (s : State), decode (.query q) = .ok i → ∃ t, exec i s = .next t ∧
    t = { s with
          vint := t.vint, out := t.out, lineDraws := t.lineDraws,
          tg := { s.tg with dirty := t.tg.dirty, win := t.tg.win, lc := t.tg.lc, lcEnd := t.tg.lcEnd } } ∧
    (∃ given, t.out = s.out ++ given) ∧ ((∀ y, q ≠ .beginDidLine y) → t.vint = s.vint) ∧
    ((∀ y, 65535 < y → q ≠ .beginDidLine y) → t.lineDraws = s.lineDraws)

/-! ## The whole machine -/

/-- STATUS.VINT is set by nothing but begin_did_line at VINT_LINE with VINT_EN, which also gives the VINT edge; it is cleared by
nothing but a write of 1 to STATUS bit 4 and a reset (R322). -/
def Obligations.VintSources : Prop :=
  ∀ s t : State, step s = .next t →
    (s.vint = false → t.vint = true → ∃ y rest, s.inbox = .query (.beginDidLine y) :: rest ∧
      s.tg.displayCtrl.getLsbD 4 = true ∧ y = s.tg.vintLine.toNat ∧ Output.vint ∈ t.out) ∧
    (s.vint = true → t.vint = false → ∃ r rest, s.inbox = r :: rest ∧
      ((∃ v m, (decode r = .ok (.wStatus v m) ∨ decode r = .ok (.gStatus v m)) ∧ (v &&& m).getLsbD 4 = true) ∨
        r = .hardReset ∨ r = .softReset))

/-- A reset leaves every register and hidden state at its reset value; a hard reset draws every plane cell, TRAM word, CLUT entry
and mode-table entry anew, a soft reset the planes and TRAM only, keeping the CLUT and mode tables (R381, R382). The parameters,
the schedule, the outputs and the count of drawn line pointers are the model's own state and stay (logs 15, 23). -/
def Obligations.Resets : Prop :=
  ∀ s : State, ∃ h t, exec .hardReset s = .next h ∧ exec .softReset s = .next t ∧
    (∀ u ∈ [h, t],
      u.ce = State.reset.ce ∧ u.hostdata = 0 ∧ u.vint = false ∧ u.dcbtmo = false ∧ u.xf = State.reset.xf ∧
        u.dcbPending = false ∧ u.tg = State.reset.tg ∧ u.analog = State.reset.analog ∧ u.latch0 = State.reset.latch0 ∧
        u.latch1 = State.reset.latch1 ∧ u.par = s.par ∧ u.inbox = s.inbox ∧ u.out = s.out ∧
        u.lineDraws = s.lineDraws ∧
        (∀ i : Inst, (u.pmr i).config = 0 ∧ (u.pmr i).cursorCmap = 0 ∧ (u.pmr i).popupCmap = 0 ∧ (u.pmr i).modeIndex = 0) ∧
        (∀ c : Inst, (u.clut c).index = 0) ∧
        (∀ p a, cellAt u p a = Config.planeDraw (s.draws + 1) p.num a) ∧
        ∀ a, tramRead u a = Config.tramDraw (s.draws + 1) (a % s.par.tramWords)) ∧
    (∀ c i, clutEntry h c i = Config.clutDraw (s.tableDraws + 1) c.num (i % s.par.clutEntries) ∧
      clutEntry t c i = clutEntry s c i) ∧
    ∀ i j, modeTableEntry h i j = Config.modeDraw (s.tableDraws + 1) i.num (j % 32) ∧
      modeTableEntry t i j = modeTableEntry s i j

/-- The reset values of the registers and hidden state (R383). -/
def Obligations.ResetValues : Prop :=
  (∀ r : Reg, State.reset.ce.get r =
    if r = .drawmode1 then 0x00000260 else if r = .wrmask then 0xFFFFFFFF else if r = .clipmax then 0x7FFF7FFF else 0) ∧
    exec .rStatus State.reset = .next { State.reset with out := [.data32 0] } ∧
    State.reset.hostdata = 0 ∧ State.reset.dcbPending = false ∧
    State.reset.xf = { active := false, dir := .hostToFrame, x0 := 0, y0 := 0, x1 := 0, y1 := 0, sx := .pos, sy := .pos,
                       hx := 0, hy := 0 } ∧
    (∀ i : Inst, (State.reset.pmr i).config = 0 ∧ (State.reset.pmr i).cursorCmap = 0 ∧ (State.reset.pmr i).popupCmap = 0 ∧
      (State.reset.pmr i).modeIndex = 0) ∧
    (∀ c : Inst, (State.reset.clut c).index = 0) ∧
    State.reset.tg = { vtFramePtr := 0, vtLinePtr := 0, didFramePtr := 0, cursorGlyphPtr := 0, cursorX := 0, cursorY := 0,
                       displayCtrl := 0, vintLine := 0, ramAddr := 0, dirty := true,
                       win := { x0 := 0, y0 := 0, x1 := -1, y1 := -1 }, lc := 0, lcEnd := true } ∧
    ∀ (d : AuxId) (j : Fin 16), (State.reset.aux d).get j = 0

/-- The state after reset satisfies the invariant: legal parameters (R9's defaults), canonical memories, reserved bits 0, indices
in their tables, the transfer cursor in its rectangle, no stale window, BRES_COUNT in its range. -/
def Obligations.ResetInv : Prop := State.reset.Inv

/-- Every step keeps the invariant, and no step changes the parameters: reserved bits read 0 (R114), indices never name an entry
outside a table (R80, R282), the cached window is never stale (R79), the transfer cursor stays in its rectangle (R39), the planes
and tables keep their extent and the memories their canonical form (R63; log 7). -/
def Obligations.StepKeepsInv : Prop :=
  ∀ s t : State, s.Inv → step s = .next t → t.Inv ∧ t.par = s.par
end

