-- ==== Sys2Proof/Laws/Memory.lean ====
section
/-! SUPPORT. What the memory operations do: read after write, and the canonical form that every write keeps. -/

namespace Sys2Proof.Machine

variable {w : Nat}

/-- A read of the address just written gives the value written. -/
@[simp] theorem Memory.get?_set_same (m : Memory w) (a : Nat) (v : BitVec w) : (m.set a v).get? a = some v := by
  induction m with
  | nil => simp [Memory.set, Memory.get?]
  | cons e rest ih =>
    obtain ⟨k, x⟩ := e
    simp only [Memory.set]
    split
    · simp [Memory.get?]
    · split
      · simp [Memory.get?]
      · have h : ¬ k = a := fun h => by omega
        simp [Memory.get?, h, ih]

/-- A read of any other address gives what it gave before. -/
theorem Memory.get?_set_ne (m : Memory w) {a b : Nat} (v : BitVec w) (h : b ≠ a) : (m.set a v).get? b = m.get? b := by
  induction m with
  | nil => simp [Memory.set, Memory.get?, Ne.symm h]
  | cons e rest ih =>
    obtain ⟨k, x⟩ := e
    simp only [Memory.set]
    split
    · simp [Memory.get?, Ne.symm h]
    · split
      · subst_vars
        simp [Memory.get?, Ne.symm h]
      · simp only [Memory.get?, ih]

/-- The whole of a write: the address written reads the value, every other address reads as before. -/
theorem Memory.get?_set (m : Memory w) (a b : Nat) (v : BitVec w) :
    (m.set a v).get? b = if b = a then some v else m.get? b := by
  split
  · subst_vars; simp
  · exact Memory.get?_set_ne m v ‹_›

theorem Memory.risingFrom_mono {m : Memory w} {lo hi : Nat} (h : lo ≤ hi) (hm : m.risingFrom hi = true) :
    m.risingFrom lo = true := by
  cases m with
  | nil => rfl
  | cons e rest =>
    simp only [Memory.risingFrom, Bool.and_eq_true, decide_eq_true_eq] at hm ⊢
    exact ⟨by omega, hm.2⟩

theorem Memory.risingFrom_set {m : Memory w} {lo a : Nat} (v : BitVec w) (hm : m.risingFrom lo = true) (h : lo ≤ a) :
    (m.set a v).risingFrom lo = true := by
  induction m generalizing lo with
  | nil => simp [Memory.set, Memory.risingFrom, h]
  | cons e rest ih =>
    obtain ⟨k, x⟩ := e
    simp only [Memory.risingFrom, Bool.and_eq_true, decide_eq_true_eq] at hm
    simp only [Memory.set]
    split
    · simp only [Memory.risingFrom, Bool.and_eq_true, decide_eq_true_eq]
      exact ⟨h, by omega, hm.2⟩
    · split
      · subst_vars
        simp only [Memory.risingFrom, Bool.and_eq_true, decide_eq_true_eq]
        exact hm
      · simp only [Memory.risingFrom, Bool.and_eq_true, decide_eq_true_eq]
        exact ⟨hm.1, ih hm.2 (by omega)⟩

theorem Memory.below_set {m : Memory w} {n a : Nat} (v : BitVec w) (hm : m.below n = true) (h : a < n) :
    (m.set a v).below n = true := by
  induction m with
  | nil => simp [Memory.set, Memory.below, h]
  | cons e rest ih =>
    obtain ⟨k, x⟩ := e
    simp only [Memory.below, List.all_cons, Bool.and_eq_true, decide_eq_true_eq] at hm ih
    simp only [Memory.set]
    split
    · simp [Memory.below, h, hm]
    · split
      · subst_vars
        simp [Memory.below, hm]
      · simp only [Memory.below, List.all_cons, Bool.and_eq_true, decide_eq_true_eq]
        exact ⟨hm.1, ih hm.2⟩

/-- A write inside the memory keeps the canonical form. -/
theorem Memory.wf_set {m : Memory w} {n a : Nat} (v : BitVec w) (hm : m.wf n = true) (h : a < n) : (m.set a v).wf n = true := by
  simp only [Memory.wf, Bool.and_eq_true] at hm ⊢
  exact ⟨Memory.risingFrom_set v hm.1 (Nat.zero_le a), Memory.below_set v hm.2 h⟩

/-- The empty memory has the canonical form. -/
@[simp] theorem Memory.wf_nil (n : Nat) : Memory.wf n ([] : Memory w) = true := rfl

/-- A memory in canonical form is determined by what its addresses read: equal reads, equal memories. -/
theorem Memory.ext_of_rising {m n : Memory w} {lo : Nat} (hm : m.risingFrom lo = true) (hn : n.risingFrom lo = true)
    (h : ∀ a, m.get? a = n.get? a) : m = n := by
  have below : ∀ {p : Memory w} {l a : Nat}, p.risingFrom l = true → a < l → p.get? a = none := by
    intro p
    induction p with
    | nil => intros; rfl
    | cons e rest ih =>
      intro l a hp ha
      obtain ⟨k, x⟩ := e
      simp only [Memory.risingFrom, Bool.and_eq_true, decide_eq_true_eq] at hp
      have : ¬ k = a := by omega
      simp only [Memory.get?, this, if_false]
      exact ih hp.2 (by omega)
  induction m generalizing n lo with
  | nil =>
    cases n with
    | nil => rfl
    | cons e rest => obtain ⟨k, x⟩ := e; have := h k; simp [Memory.get?] at this
  | cons e rest ih =>
    obtain ⟨k, x⟩ := e
    simp only [Memory.risingFrom, Bool.and_eq_true, decide_eq_true_eq] at hm
    cases n with
    | nil => have := h k; simp [Memory.get?] at this
    | cons f tail =>
      obtain ⟨j, y⟩ := f
      simp only [Memory.risingFrom, Bool.and_eq_true, decide_eq_true_eq] at hn
      have hkj : k = j := by
        rcases Nat.lt_trichotomy k j with hlt | heq | hgt
        · have h1 := h k
          have : ¬ j = k := by omega
          simp only [Memory.get?, if_true, this, if_false, below hn.2 (show k < j + 1 by omega)] at h1
          cases h1
        · exact heq
        · have h1 := h j
          have : ¬ k = j := by omega
          simp only [Memory.get?, if_true, this, if_false, below hm.2 (show j < k + 1 by omega)] at h1
          cases h1
      subst hkj
      have hxy : x = y := by simpa [Memory.get?] using h k
      subst hxy
      congr 1
      refine ih hm.2 hn.2 fun a => ?_
      by_cases ha : a = k
      · subst ha
        rw [below hm.2 (Nat.lt_succ_self _), below hn.2 (Nat.lt_succ_self _)]
      · simpa [Memory.get?, Ne.symm ha] using h a

end Sys2Proof.Machine
end

