-- ==== Sys2Proof/Laws/State.lean ====
section
/-! SUPPORT. One lemma per field per update of the state: what each named update leaves in each field. -/

namespace Sys2Proof.Machine

/-! ### `State.setReg` -/

@[simp] theorem State.setReg_par (s : State) (r : Reg) (v : W32) : (s.setReg r v).par = s.par := rfl
@[simp] theorem State.setReg_ce (s : State) (r : Reg) (v : W32) : (s.setReg r v).ce = s.ce.set r v := rfl
@[simp] theorem State.setReg_hostdata (s : State) (r : Reg) (v : W32) : (s.setReg r v).hostdata = s.hostdata := rfl
@[simp] theorem State.setReg_vint (s : State) (r : Reg) (v : W32) : (s.setReg r v).vint = s.vint := rfl
@[simp] theorem State.setReg_dcbtmo (s : State) (r : Reg) (v : W32) : (s.setReg r v).dcbtmo = s.dcbtmo := rfl
@[simp] theorem State.setReg_xf (s : State) (r : Reg) (v : W32) : (s.setReg r v).xf = s.xf := rfl
@[simp] theorem State.setReg_dcbPending (s : State) (r : Reg) (v : W32) : (s.setReg r v).dcbPending = s.dcbPending := rfl
@[simp] theorem State.setReg_planes (s : State) (r : Reg) (v : W32) : (s.setReg r v).planes = s.planes := rfl
@[simp] theorem State.setReg_pmr0 (s : State) (r : Reg) (v : W32) : (s.setReg r v).pmr0 = s.pmr0 := rfl
@[simp] theorem State.setReg_pmr1 (s : State) (r : Reg) (v : W32) : (s.setReg r v).pmr1 = s.pmr1 := rfl
@[simp] theorem State.setReg_clut0 (s : State) (r : Reg) (v : W32) : (s.setReg r v).clut0 = s.clut0 := rfl
@[simp] theorem State.setReg_clut1 (s : State) (r : Reg) (v : W32) : (s.setReg r v).clut1 = s.clut1 := rfl
@[simp] theorem State.setReg_tg (s : State) (r : Reg) (v : W32) : (s.setReg r v).tg = s.tg := rfl
@[simp] theorem State.setReg_tram (s : State) (r : Reg) (v : W32) : (s.setReg r v).tram = s.tram := rfl
@[simp] theorem State.setReg_analog (s : State) (r : Reg) (v : W32) : (s.setReg r v).analog = s.analog := rfl
@[simp] theorem State.setReg_latch0 (s : State) (r : Reg) (v : W32) : (s.setReg r v).latch0 = s.latch0 := rfl
@[simp] theorem State.setReg_latch1 (s : State) (r : Reg) (v : W32) : (s.setReg r v).latch1 = s.latch1 := rfl
@[simp] theorem State.setReg_draws (s : State) (r : Reg) (v : W32) : (s.setReg r v).draws = s.draws := rfl
@[simp] theorem State.setReg_tableDraws (s : State) (r : Reg) (v : W32) : (s.setReg r v).tableDraws = s.tableDraws := rfl
@[simp] theorem State.setReg_lineDraws (s : State) (r : Reg) (v : W32) : (s.setReg r v).lineDraws = s.lineDraws := rfl
@[simp] theorem State.setReg_inbox (s : State) (r : Reg) (v : W32) : (s.setReg r v).inbox = s.inbox := rfl
@[simp] theorem State.setReg_out (s : State) (r : Reg) (v : W32) : (s.setReg r v).out = s.out := rfl

/-! ### `State.setHostdata` -/

@[simp] theorem State.setHostdata_par (s : State) (v : W64) : (s.setHostdata v).par = s.par := rfl
@[simp] theorem State.setHostdata_ce (s : State) (v : W64) : (s.setHostdata v).ce = s.ce := rfl
@[simp] theorem State.setHostdata_hostdata (s : State) (v : W64) : (s.setHostdata v).hostdata = v := rfl
@[simp] theorem State.setHostdata_vint (s : State) (v : W64) : (s.setHostdata v).vint = s.vint := rfl
@[simp] theorem State.setHostdata_dcbtmo (s : State) (v : W64) : (s.setHostdata v).dcbtmo = s.dcbtmo := rfl
@[simp] theorem State.setHostdata_xf (s : State) (v : W64) : (s.setHostdata v).xf = s.xf := rfl
@[simp] theorem State.setHostdata_dcbPending (s : State) (v : W64) : (s.setHostdata v).dcbPending = s.dcbPending := rfl
@[simp] theorem State.setHostdata_planes (s : State) (v : W64) : (s.setHostdata v).planes = s.planes := rfl
@[simp] theorem State.setHostdata_pmr0 (s : State) (v : W64) : (s.setHostdata v).pmr0 = s.pmr0 := rfl
@[simp] theorem State.setHostdata_pmr1 (s : State) (v : W64) : (s.setHostdata v).pmr1 = s.pmr1 := rfl
@[simp] theorem State.setHostdata_clut0 (s : State) (v : W64) : (s.setHostdata v).clut0 = s.clut0 := rfl
@[simp] theorem State.setHostdata_clut1 (s : State) (v : W64) : (s.setHostdata v).clut1 = s.clut1 := rfl
@[simp] theorem State.setHostdata_tg (s : State) (v : W64) : (s.setHostdata v).tg = s.tg := rfl
@[simp] theorem State.setHostdata_tram (s : State) (v : W64) : (s.setHostdata v).tram = s.tram := rfl
@[simp] theorem State.setHostdata_analog (s : State) (v : W64) : (s.setHostdata v).analog = s.analog := rfl
@[simp] theorem State.setHostdata_latch0 (s : State) (v : W64) : (s.setHostdata v).latch0 = s.latch0 := rfl
@[simp] theorem State.setHostdata_latch1 (s : State) (v : W64) : (s.setHostdata v).latch1 = s.latch1 := rfl
@[simp] theorem State.setHostdata_draws (s : State) (v : W64) : (s.setHostdata v).draws = s.draws := rfl
@[simp] theorem State.setHostdata_tableDraws (s : State) (v : W64) : (s.setHostdata v).tableDraws = s.tableDraws := rfl
@[simp] theorem State.setHostdata_lineDraws (s : State) (v : W64) : (s.setHostdata v).lineDraws = s.lineDraws := rfl
@[simp] theorem State.setHostdata_inbox (s : State) (v : W64) : (s.setHostdata v).inbox = s.inbox := rfl
@[simp] theorem State.setHostdata_out (s : State) (v : W64) : (s.setHostdata v).out = s.out := rfl

/-! ### `State.setVint` -/

@[simp] theorem State.setVint_par (s : State) (b : Bool) : (s.setVint b).par = s.par := rfl
@[simp] theorem State.setVint_ce (s : State) (b : Bool) : (s.setVint b).ce = s.ce := rfl
@[simp] theorem State.setVint_hostdata (s : State) (b : Bool) : (s.setVint b).hostdata = s.hostdata := rfl
@[simp] theorem State.setVint_vint (s : State) (b : Bool) : (s.setVint b).vint = b := rfl
@[simp] theorem State.setVint_dcbtmo (s : State) (b : Bool) : (s.setVint b).dcbtmo = s.dcbtmo := rfl
@[simp] theorem State.setVint_xf (s : State) (b : Bool) : (s.setVint b).xf = s.xf := rfl
@[simp] theorem State.setVint_dcbPending (s : State) (b : Bool) : (s.setVint b).dcbPending = s.dcbPending := rfl
@[simp] theorem State.setVint_planes (s : State) (b : Bool) : (s.setVint b).planes = s.planes := rfl
@[simp] theorem State.setVint_pmr0 (s : State) (b : Bool) : (s.setVint b).pmr0 = s.pmr0 := rfl
@[simp] theorem State.setVint_pmr1 (s : State) (b : Bool) : (s.setVint b).pmr1 = s.pmr1 := rfl
@[simp] theorem State.setVint_clut0 (s : State) (b : Bool) : (s.setVint b).clut0 = s.clut0 := rfl
@[simp] theorem State.setVint_clut1 (s : State) (b : Bool) : (s.setVint b).clut1 = s.clut1 := rfl
@[simp] theorem State.setVint_tg (s : State) (b : Bool) : (s.setVint b).tg = s.tg := rfl
@[simp] theorem State.setVint_tram (s : State) (b : Bool) : (s.setVint b).tram = s.tram := rfl
@[simp] theorem State.setVint_analog (s : State) (b : Bool) : (s.setVint b).analog = s.analog := rfl
@[simp] theorem State.setVint_latch0 (s : State) (b : Bool) : (s.setVint b).latch0 = s.latch0 := rfl
@[simp] theorem State.setVint_latch1 (s : State) (b : Bool) : (s.setVint b).latch1 = s.latch1 := rfl
@[simp] theorem State.setVint_draws (s : State) (b : Bool) : (s.setVint b).draws = s.draws := rfl
@[simp] theorem State.setVint_tableDraws (s : State) (b : Bool) : (s.setVint b).tableDraws = s.tableDraws := rfl
@[simp] theorem State.setVint_lineDraws (s : State) (b : Bool) : (s.setVint b).lineDraws = s.lineDraws := rfl
@[simp] theorem State.setVint_inbox (s : State) (b : Bool) : (s.setVint b).inbox = s.inbox := rfl
@[simp] theorem State.setVint_out (s : State) (b : Bool) : (s.setVint b).out = s.out := rfl

/-! ### `State.setDcbtmo` -/

@[simp] theorem State.setDcbtmo_par (s : State) (b : Bool) : (s.setDcbtmo b).par = s.par := rfl
@[simp] theorem State.setDcbtmo_ce (s : State) (b : Bool) : (s.setDcbtmo b).ce = s.ce := rfl
@[simp] theorem State.setDcbtmo_hostdata (s : State) (b : Bool) : (s.setDcbtmo b).hostdata = s.hostdata := rfl
@[simp] theorem State.setDcbtmo_vint (s : State) (b : Bool) : (s.setDcbtmo b).vint = s.vint := rfl
@[simp] theorem State.setDcbtmo_dcbtmo (s : State) (b : Bool) : (s.setDcbtmo b).dcbtmo = b := rfl
@[simp] theorem State.setDcbtmo_xf (s : State) (b : Bool) : (s.setDcbtmo b).xf = s.xf := rfl
@[simp] theorem State.setDcbtmo_dcbPending (s : State) (b : Bool) : (s.setDcbtmo b).dcbPending = s.dcbPending := rfl
@[simp] theorem State.setDcbtmo_planes (s : State) (b : Bool) : (s.setDcbtmo b).planes = s.planes := rfl
@[simp] theorem State.setDcbtmo_pmr0 (s : State) (b : Bool) : (s.setDcbtmo b).pmr0 = s.pmr0 := rfl
@[simp] theorem State.setDcbtmo_pmr1 (s : State) (b : Bool) : (s.setDcbtmo b).pmr1 = s.pmr1 := rfl
@[simp] theorem State.setDcbtmo_clut0 (s : State) (b : Bool) : (s.setDcbtmo b).clut0 = s.clut0 := rfl
@[simp] theorem State.setDcbtmo_clut1 (s : State) (b : Bool) : (s.setDcbtmo b).clut1 = s.clut1 := rfl
@[simp] theorem State.setDcbtmo_tg (s : State) (b : Bool) : (s.setDcbtmo b).tg = s.tg := rfl
@[simp] theorem State.setDcbtmo_tram (s : State) (b : Bool) : (s.setDcbtmo b).tram = s.tram := rfl
@[simp] theorem State.setDcbtmo_analog (s : State) (b : Bool) : (s.setDcbtmo b).analog = s.analog := rfl
@[simp] theorem State.setDcbtmo_latch0 (s : State) (b : Bool) : (s.setDcbtmo b).latch0 = s.latch0 := rfl
@[simp] theorem State.setDcbtmo_latch1 (s : State) (b : Bool) : (s.setDcbtmo b).latch1 = s.latch1 := rfl
@[simp] theorem State.setDcbtmo_draws (s : State) (b : Bool) : (s.setDcbtmo b).draws = s.draws := rfl
@[simp] theorem State.setDcbtmo_tableDraws (s : State) (b : Bool) : (s.setDcbtmo b).tableDraws = s.tableDraws := rfl
@[simp] theorem State.setDcbtmo_lineDraws (s : State) (b : Bool) : (s.setDcbtmo b).lineDraws = s.lineDraws := rfl
@[simp] theorem State.setDcbtmo_inbox (s : State) (b : Bool) : (s.setDcbtmo b).inbox = s.inbox := rfl
@[simp] theorem State.setDcbtmo_out (s : State) (b : Bool) : (s.setDcbtmo b).out = s.out := rfl

/-! ### `State.setXf` -/

@[simp] theorem State.setXf_par (s : State) (x : Xfer) : (s.setXf x).par = s.par := rfl
@[simp] theorem State.setXf_ce (s : State) (x : Xfer) : (s.setXf x).ce = s.ce := rfl
@[simp] theorem State.setXf_hostdata (s : State) (x : Xfer) : (s.setXf x).hostdata = s.hostdata := rfl
@[simp] theorem State.setXf_vint (s : State) (x : Xfer) : (s.setXf x).vint = s.vint := rfl
@[simp] theorem State.setXf_dcbtmo (s : State) (x : Xfer) : (s.setXf x).dcbtmo = s.dcbtmo := rfl
@[simp] theorem State.setXf_xf (s : State) (x : Xfer) : (s.setXf x).xf = x := rfl
@[simp] theorem State.setXf_dcbPending (s : State) (x : Xfer) : (s.setXf x).dcbPending = s.dcbPending := rfl
@[simp] theorem State.setXf_planes (s : State) (x : Xfer) : (s.setXf x).planes = s.planes := rfl
@[simp] theorem State.setXf_pmr0 (s : State) (x : Xfer) : (s.setXf x).pmr0 = s.pmr0 := rfl
@[simp] theorem State.setXf_pmr1 (s : State) (x : Xfer) : (s.setXf x).pmr1 = s.pmr1 := rfl
@[simp] theorem State.setXf_clut0 (s : State) (x : Xfer) : (s.setXf x).clut0 = s.clut0 := rfl
@[simp] theorem State.setXf_clut1 (s : State) (x : Xfer) : (s.setXf x).clut1 = s.clut1 := rfl
@[simp] theorem State.setXf_tg (s : State) (x : Xfer) : (s.setXf x).tg = s.tg := rfl
@[simp] theorem State.setXf_tram (s : State) (x : Xfer) : (s.setXf x).tram = s.tram := rfl
@[simp] theorem State.setXf_analog (s : State) (x : Xfer) : (s.setXf x).analog = s.analog := rfl
@[simp] theorem State.setXf_latch0 (s : State) (x : Xfer) : (s.setXf x).latch0 = s.latch0 := rfl
@[simp] theorem State.setXf_latch1 (s : State) (x : Xfer) : (s.setXf x).latch1 = s.latch1 := rfl
@[simp] theorem State.setXf_draws (s : State) (x : Xfer) : (s.setXf x).draws = s.draws := rfl
@[simp] theorem State.setXf_tableDraws (s : State) (x : Xfer) : (s.setXf x).tableDraws = s.tableDraws := rfl
@[simp] theorem State.setXf_lineDraws (s : State) (x : Xfer) : (s.setXf x).lineDraws = s.lineDraws := rfl
@[simp] theorem State.setXf_inbox (s : State) (x : Xfer) : (s.setXf x).inbox = s.inbox := rfl
@[simp] theorem State.setXf_out (s : State) (x : Xfer) : (s.setXf x).out = s.out := rfl

/-! ### `State.setPending` -/

@[simp] theorem State.setPending_par (s : State) (b : Bool) : (s.setPending b).par = s.par := rfl
@[simp] theorem State.setPending_ce (s : State) (b : Bool) : (s.setPending b).ce = s.ce := rfl
@[simp] theorem State.setPending_hostdata (s : State) (b : Bool) : (s.setPending b).hostdata = s.hostdata := rfl
@[simp] theorem State.setPending_vint (s : State) (b : Bool) : (s.setPending b).vint = s.vint := rfl
@[simp] theorem State.setPending_dcbtmo (s : State) (b : Bool) : (s.setPending b).dcbtmo = s.dcbtmo := rfl
@[simp] theorem State.setPending_xf (s : State) (b : Bool) : (s.setPending b).xf = s.xf := rfl
@[simp] theorem State.setPending_dcbPending (s : State) (b : Bool) : (s.setPending b).dcbPending = b := rfl
@[simp] theorem State.setPending_planes (s : State) (b : Bool) : (s.setPending b).planes = s.planes := rfl
@[simp] theorem State.setPending_pmr0 (s : State) (b : Bool) : (s.setPending b).pmr0 = s.pmr0 := rfl
@[simp] theorem State.setPending_pmr1 (s : State) (b : Bool) : (s.setPending b).pmr1 = s.pmr1 := rfl
@[simp] theorem State.setPending_clut0 (s : State) (b : Bool) : (s.setPending b).clut0 = s.clut0 := rfl
@[simp] theorem State.setPending_clut1 (s : State) (b : Bool) : (s.setPending b).clut1 = s.clut1 := rfl
@[simp] theorem State.setPending_tg (s : State) (b : Bool) : (s.setPending b).tg = s.tg := rfl
@[simp] theorem State.setPending_tram (s : State) (b : Bool) : (s.setPending b).tram = s.tram := rfl
@[simp] theorem State.setPending_analog (s : State) (b : Bool) : (s.setPending b).analog = s.analog := rfl
@[simp] theorem State.setPending_latch0 (s : State) (b : Bool) : (s.setPending b).latch0 = s.latch0 := rfl
@[simp] theorem State.setPending_latch1 (s : State) (b : Bool) : (s.setPending b).latch1 = s.latch1 := rfl
@[simp] theorem State.setPending_draws (s : State) (b : Bool) : (s.setPending b).draws = s.draws := rfl
@[simp] theorem State.setPending_tableDraws (s : State) (b : Bool) : (s.setPending b).tableDraws = s.tableDraws := rfl
@[simp] theorem State.setPending_lineDraws (s : State) (b : Bool) : (s.setPending b).lineDraws = s.lineDraws := rfl
@[simp] theorem State.setPending_inbox (s : State) (b : Bool) : (s.setPending b).inbox = s.inbox := rfl
@[simp] theorem State.setPending_out (s : State) (b : Bool) : (s.setPending b).out = s.out := rfl

/-! ### `State.setPlane` -/

@[simp] theorem State.setPlane_par (s : State) (p : PlaneId) (m : Memory 32) : (s.setPlane p m).par = s.par := rfl
@[simp] theorem State.setPlane_ce (s : State) (p : PlaneId) (m : Memory 32) : (s.setPlane p m).ce = s.ce := rfl
@[simp] theorem State.setPlane_hostdata (s : State) (p : PlaneId) (m : Memory 32) : (s.setPlane p m).hostdata = s.hostdata := rfl
@[simp] theorem State.setPlane_vint (s : State) (p : PlaneId) (m : Memory 32) : (s.setPlane p m).vint = s.vint := rfl
@[simp] theorem State.setPlane_dcbtmo (s : State) (p : PlaneId) (m : Memory 32) : (s.setPlane p m).dcbtmo = s.dcbtmo := rfl
@[simp] theorem State.setPlane_xf (s : State) (p : PlaneId) (m : Memory 32) : (s.setPlane p m).xf = s.xf := rfl
@[simp] theorem State.setPlane_dcbPending (s : State) (p : PlaneId) (m : Memory 32) : (s.setPlane p m).dcbPending = s.dcbPending := rfl
@[simp] theorem State.setPlane_planes (s : State) (p : PlaneId) (m : Memory 32) : (s.setPlane p m).planes = s.planes.set p m := rfl
@[simp] theorem State.setPlane_pmr0 (s : State) (p : PlaneId) (m : Memory 32) : (s.setPlane p m).pmr0 = s.pmr0 := rfl
@[simp] theorem State.setPlane_pmr1 (s : State) (p : PlaneId) (m : Memory 32) : (s.setPlane p m).pmr1 = s.pmr1 := rfl
@[simp] theorem State.setPlane_clut0 (s : State) (p : PlaneId) (m : Memory 32) : (s.setPlane p m).clut0 = s.clut0 := rfl
@[simp] theorem State.setPlane_clut1 (s : State) (p : PlaneId) (m : Memory 32) : (s.setPlane p m).clut1 = s.clut1 := rfl
@[simp] theorem State.setPlane_tg (s : State) (p : PlaneId) (m : Memory 32) : (s.setPlane p m).tg = s.tg := rfl
@[simp] theorem State.setPlane_tram (s : State) (p : PlaneId) (m : Memory 32) : (s.setPlane p m).tram = s.tram := rfl
@[simp] theorem State.setPlane_analog (s : State) (p : PlaneId) (m : Memory 32) : (s.setPlane p m).analog = s.analog := rfl
@[simp] theorem State.setPlane_latch0 (s : State) (p : PlaneId) (m : Memory 32) : (s.setPlane p m).latch0 = s.latch0 := rfl
@[simp] theorem State.setPlane_latch1 (s : State) (p : PlaneId) (m : Memory 32) : (s.setPlane p m).latch1 = s.latch1 := rfl
@[simp] theorem State.setPlane_draws (s : State) (p : PlaneId) (m : Memory 32) : (s.setPlane p m).draws = s.draws := rfl
@[simp] theorem State.setPlane_tableDraws (s : State) (p : PlaneId) (m : Memory 32) : (s.setPlane p m).tableDraws = s.tableDraws := rfl
@[simp] theorem State.setPlane_lineDraws (s : State) (p : PlaneId) (m : Memory 32) : (s.setPlane p m).lineDraws = s.lineDraws := rfl
@[simp] theorem State.setPlane_inbox (s : State) (p : PlaneId) (m : Memory 32) : (s.setPlane p m).inbox = s.inbox := rfl
@[simp] theorem State.setPlane_out (s : State) (p : PlaneId) (m : Memory 32) : (s.setPlane p m).out = s.out := rfl

/-! ### `State.setTg` -/

@[simp] theorem State.setTg_par (s : State) (g : Tg) : (s.setTg g).par = s.par := rfl
@[simp] theorem State.setTg_ce (s : State) (g : Tg) : (s.setTg g).ce = s.ce := rfl
@[simp] theorem State.setTg_hostdata (s : State) (g : Tg) : (s.setTg g).hostdata = s.hostdata := rfl
@[simp] theorem State.setTg_vint (s : State) (g : Tg) : (s.setTg g).vint = s.vint := rfl
@[simp] theorem State.setTg_dcbtmo (s : State) (g : Tg) : (s.setTg g).dcbtmo = s.dcbtmo := rfl
@[simp] theorem State.setTg_xf (s : State) (g : Tg) : (s.setTg g).xf = s.xf := rfl
@[simp] theorem State.setTg_dcbPending (s : State) (g : Tg) : (s.setTg g).dcbPending = s.dcbPending := rfl
@[simp] theorem State.setTg_planes (s : State) (g : Tg) : (s.setTg g).planes = s.planes := rfl
@[simp] theorem State.setTg_pmr0 (s : State) (g : Tg) : (s.setTg g).pmr0 = s.pmr0 := rfl
@[simp] theorem State.setTg_pmr1 (s : State) (g : Tg) : (s.setTg g).pmr1 = s.pmr1 := rfl
@[simp] theorem State.setTg_clut0 (s : State) (g : Tg) : (s.setTg g).clut0 = s.clut0 := rfl
@[simp] theorem State.setTg_clut1 (s : State) (g : Tg) : (s.setTg g).clut1 = s.clut1 := rfl
@[simp] theorem State.setTg_tg (s : State) (g : Tg) : (s.setTg g).tg = g := rfl
@[simp] theorem State.setTg_tram (s : State) (g : Tg) : (s.setTg g).tram = s.tram := rfl
@[simp] theorem State.setTg_analog (s : State) (g : Tg) : (s.setTg g).analog = s.analog := rfl
@[simp] theorem State.setTg_latch0 (s : State) (g : Tg) : (s.setTg g).latch0 = s.latch0 := rfl
@[simp] theorem State.setTg_latch1 (s : State) (g : Tg) : (s.setTg g).latch1 = s.latch1 := rfl
@[simp] theorem State.setTg_draws (s : State) (g : Tg) : (s.setTg g).draws = s.draws := rfl
@[simp] theorem State.setTg_tableDraws (s : State) (g : Tg) : (s.setTg g).tableDraws = s.tableDraws := rfl
@[simp] theorem State.setTg_lineDraws (s : State) (g : Tg) : (s.setTg g).lineDraws = s.lineDraws := rfl
@[simp] theorem State.setTg_inbox (s : State) (g : Tg) : (s.setTg g).inbox = s.inbox := rfl
@[simp] theorem State.setTg_out (s : State) (g : Tg) : (s.setTg g).out = s.out := rfl

/-! ### `State.setTram` -/

@[simp] theorem State.setTram_par (s : State) (m : Memory 16) : (s.setTram m).par = s.par := rfl
@[simp] theorem State.setTram_ce (s : State) (m : Memory 16) : (s.setTram m).ce = s.ce := rfl
@[simp] theorem State.setTram_hostdata (s : State) (m : Memory 16) : (s.setTram m).hostdata = s.hostdata := rfl
@[simp] theorem State.setTram_vint (s : State) (m : Memory 16) : (s.setTram m).vint = s.vint := rfl
@[simp] theorem State.setTram_dcbtmo (s : State) (m : Memory 16) : (s.setTram m).dcbtmo = s.dcbtmo := rfl
@[simp] theorem State.setTram_xf (s : State) (m : Memory 16) : (s.setTram m).xf = s.xf := rfl
@[simp] theorem State.setTram_dcbPending (s : State) (m : Memory 16) : (s.setTram m).dcbPending = s.dcbPending := rfl
@[simp] theorem State.setTram_planes (s : State) (m : Memory 16) : (s.setTram m).planes = s.planes := rfl
@[simp] theorem State.setTram_pmr0 (s : State) (m : Memory 16) : (s.setTram m).pmr0 = s.pmr0 := rfl
@[simp] theorem State.setTram_pmr1 (s : State) (m : Memory 16) : (s.setTram m).pmr1 = s.pmr1 := rfl
@[simp] theorem State.setTram_clut0 (s : State) (m : Memory 16) : (s.setTram m).clut0 = s.clut0 := rfl
@[simp] theorem State.setTram_clut1 (s : State) (m : Memory 16) : (s.setTram m).clut1 = s.clut1 := rfl
@[simp] theorem State.setTram_tg (s : State) (m : Memory 16) : (s.setTram m).tg = s.tg := rfl
@[simp] theorem State.setTram_tram (s : State) (m : Memory 16) : (s.setTram m).tram = m := rfl
@[simp] theorem State.setTram_analog (s : State) (m : Memory 16) : (s.setTram m).analog = s.analog := rfl
@[simp] theorem State.setTram_latch0 (s : State) (m : Memory 16) : (s.setTram m).latch0 = s.latch0 := rfl
@[simp] theorem State.setTram_latch1 (s : State) (m : Memory 16) : (s.setTram m).latch1 = s.latch1 := rfl
@[simp] theorem State.setTram_draws (s : State) (m : Memory 16) : (s.setTram m).draws = s.draws := rfl
@[simp] theorem State.setTram_tableDraws (s : State) (m : Memory 16) : (s.setTram m).tableDraws = s.tableDraws := rfl
@[simp] theorem State.setTram_lineDraws (s : State) (m : Memory 16) : (s.setTram m).lineDraws = s.lineDraws := rfl
@[simp] theorem State.setTram_inbox (s : State) (m : Memory 16) : (s.setTram m).inbox = s.inbox := rfl
@[simp] theorem State.setTram_out (s : State) (m : Memory 16) : (s.setTram m).out = s.out := rfl

/-! ### `State.setLineDraws` -/

@[simp] theorem State.setLineDraws_par (s : State) (n : Nat) : (s.setLineDraws n).par = s.par := rfl
@[simp] theorem State.setLineDraws_ce (s : State) (n : Nat) : (s.setLineDraws n).ce = s.ce := rfl
@[simp] theorem State.setLineDraws_hostdata (s : State) (n : Nat) : (s.setLineDraws n).hostdata = s.hostdata := rfl
@[simp] theorem State.setLineDraws_vint (s : State) (n : Nat) : (s.setLineDraws n).vint = s.vint := rfl
@[simp] theorem State.setLineDraws_dcbtmo (s : State) (n : Nat) : (s.setLineDraws n).dcbtmo = s.dcbtmo := rfl
@[simp] theorem State.setLineDraws_xf (s : State) (n : Nat) : (s.setLineDraws n).xf = s.xf := rfl
@[simp] theorem State.setLineDraws_dcbPending (s : State) (n : Nat) : (s.setLineDraws n).dcbPending = s.dcbPending := rfl
@[simp] theorem State.setLineDraws_planes (s : State) (n : Nat) : (s.setLineDraws n).planes = s.planes := rfl
@[simp] theorem State.setLineDraws_pmr0 (s : State) (n : Nat) : (s.setLineDraws n).pmr0 = s.pmr0 := rfl
@[simp] theorem State.setLineDraws_pmr1 (s : State) (n : Nat) : (s.setLineDraws n).pmr1 = s.pmr1 := rfl
@[simp] theorem State.setLineDraws_clut0 (s : State) (n : Nat) : (s.setLineDraws n).clut0 = s.clut0 := rfl
@[simp] theorem State.setLineDraws_clut1 (s : State) (n : Nat) : (s.setLineDraws n).clut1 = s.clut1 := rfl
@[simp] theorem State.setLineDraws_tg (s : State) (n : Nat) : (s.setLineDraws n).tg = s.tg := rfl
@[simp] theorem State.setLineDraws_tram (s : State) (n : Nat) : (s.setLineDraws n).tram = s.tram := rfl
@[simp] theorem State.setLineDraws_analog (s : State) (n : Nat) : (s.setLineDraws n).analog = s.analog := rfl
@[simp] theorem State.setLineDraws_latch0 (s : State) (n : Nat) : (s.setLineDraws n).latch0 = s.latch0 := rfl
@[simp] theorem State.setLineDraws_latch1 (s : State) (n : Nat) : (s.setLineDraws n).latch1 = s.latch1 := rfl
@[simp] theorem State.setLineDraws_draws (s : State) (n : Nat) : (s.setLineDraws n).draws = s.draws := rfl
@[simp] theorem State.setLineDraws_tableDraws (s : State) (n : Nat) : (s.setLineDraws n).tableDraws = s.tableDraws := rfl
@[simp] theorem State.setLineDraws_lineDraws (s : State) (n : Nat) : (s.setLineDraws n).lineDraws = n := rfl
@[simp] theorem State.setLineDraws_inbox (s : State) (n : Nat) : (s.setLineDraws n).inbox = s.inbox := rfl
@[simp] theorem State.setLineDraws_out (s : State) (n : Nat) : (s.setLineDraws n).out = s.out := rfl

/-! ### `State.emit` -/

@[simp] theorem State.emit_par (s : State) (e : Output) : (s.emit e).par = s.par := rfl
@[simp] theorem State.emit_ce (s : State) (e : Output) : (s.emit e).ce = s.ce := rfl
@[simp] theorem State.emit_hostdata (s : State) (e : Output) : (s.emit e).hostdata = s.hostdata := rfl
@[simp] theorem State.emit_vint (s : State) (e : Output) : (s.emit e).vint = s.vint := rfl
@[simp] theorem State.emit_dcbtmo (s : State) (e : Output) : (s.emit e).dcbtmo = s.dcbtmo := rfl
@[simp] theorem State.emit_xf (s : State) (e : Output) : (s.emit e).xf = s.xf := rfl
@[simp] theorem State.emit_dcbPending (s : State) (e : Output) : (s.emit e).dcbPending = s.dcbPending := rfl
@[simp] theorem State.emit_planes (s : State) (e : Output) : (s.emit e).planes = s.planes := rfl
@[simp] theorem State.emit_pmr0 (s : State) (e : Output) : (s.emit e).pmr0 = s.pmr0 := rfl
@[simp] theorem State.emit_pmr1 (s : State) (e : Output) : (s.emit e).pmr1 = s.pmr1 := rfl
@[simp] theorem State.emit_clut0 (s : State) (e : Output) : (s.emit e).clut0 = s.clut0 := rfl
@[simp] theorem State.emit_clut1 (s : State) (e : Output) : (s.emit e).clut1 = s.clut1 := rfl
@[simp] theorem State.emit_tg (s : State) (e : Output) : (s.emit e).tg = s.tg := rfl
@[simp] theorem State.emit_tram (s : State) (e : Output) : (s.emit e).tram = s.tram := rfl
@[simp] theorem State.emit_analog (s : State) (e : Output) : (s.emit e).analog = s.analog := rfl
@[simp] theorem State.emit_latch0 (s : State) (e : Output) : (s.emit e).latch0 = s.latch0 := rfl
@[simp] theorem State.emit_latch1 (s : State) (e : Output) : (s.emit e).latch1 = s.latch1 := rfl
@[simp] theorem State.emit_draws (s : State) (e : Output) : (s.emit e).draws = s.draws := rfl
@[simp] theorem State.emit_tableDraws (s : State) (e : Output) : (s.emit e).tableDraws = s.tableDraws := rfl
@[simp] theorem State.emit_lineDraws (s : State) (e : Output) : (s.emit e).lineDraws = s.lineDraws := rfl
@[simp] theorem State.emit_inbox (s : State) (e : Output) : (s.emit e).inbox = s.inbox := rfl
@[simp] theorem State.emit_out (s : State) (e : Output) : (s.emit e).out = s.out ++ [e] := rfl

/-! ### `State.taking` -/

@[simp] theorem State.taking_par (s : State) (rest : List Request) : (s.taking rest).par = s.par := rfl
@[simp] theorem State.taking_ce (s : State) (rest : List Request) : (s.taking rest).ce = s.ce := rfl
@[simp] theorem State.taking_hostdata (s : State) (rest : List Request) : (s.taking rest).hostdata = s.hostdata := rfl
@[simp] theorem State.taking_vint (s : State) (rest : List Request) : (s.taking rest).vint = s.vint := rfl
@[simp] theorem State.taking_dcbtmo (s : State) (rest : List Request) : (s.taking rest).dcbtmo = s.dcbtmo := rfl
@[simp] theorem State.taking_xf (s : State) (rest : List Request) : (s.taking rest).xf = s.xf := rfl
@[simp] theorem State.taking_dcbPending (s : State) (rest : List Request) : (s.taking rest).dcbPending = s.dcbPending := rfl
@[simp] theorem State.taking_planes (s : State) (rest : List Request) : (s.taking rest).planes = s.planes := rfl
@[simp] theorem State.taking_pmr0 (s : State) (rest : List Request) : (s.taking rest).pmr0 = s.pmr0 := rfl
@[simp] theorem State.taking_pmr1 (s : State) (rest : List Request) : (s.taking rest).pmr1 = s.pmr1 := rfl
@[simp] theorem State.taking_clut0 (s : State) (rest : List Request) : (s.taking rest).clut0 = s.clut0 := rfl
@[simp] theorem State.taking_clut1 (s : State) (rest : List Request) : (s.taking rest).clut1 = s.clut1 := rfl
@[simp] theorem State.taking_tg (s : State) (rest : List Request) : (s.taking rest).tg = s.tg := rfl
@[simp] theorem State.taking_tram (s : State) (rest : List Request) : (s.taking rest).tram = s.tram := rfl
@[simp] theorem State.taking_analog (s : State) (rest : List Request) : (s.taking rest).analog = s.analog := rfl
@[simp] theorem State.taking_latch0 (s : State) (rest : List Request) : (s.taking rest).latch0 = s.latch0 := rfl
@[simp] theorem State.taking_latch1 (s : State) (rest : List Request) : (s.taking rest).latch1 = s.latch1 := rfl
@[simp] theorem State.taking_draws (s : State) (rest : List Request) : (s.taking rest).draws = s.draws := rfl
@[simp] theorem State.taking_tableDraws (s : State) (rest : List Request) : (s.taking rest).tableDraws = s.tableDraws := rfl
@[simp] theorem State.taking_lineDraws (s : State) (rest : List Request) : (s.taking rest).lineDraws = s.lineDraws := rfl
@[simp] theorem State.taking_inbox (s : State) (rest : List Request) : (s.taking rest).inbox = rest := rfl
@[simp] theorem State.taking_out (s : State) (rest : List Request) : (s.taking rest).out = [] := rfl

/-! ### `State.idle` -/

@[simp] theorem State.idle_par (s : State) : (s.idle).par = s.par := rfl
@[simp] theorem State.idle_ce (s : State) : (s.idle).ce = s.ce := rfl
@[simp] theorem State.idle_hostdata (s : State) : (s.idle).hostdata = s.hostdata := rfl
@[simp] theorem State.idle_vint (s : State) : (s.idle).vint = s.vint := rfl
@[simp] theorem State.idle_dcbtmo (s : State) : (s.idle).dcbtmo = s.dcbtmo := rfl
@[simp] theorem State.idle_xf (s : State) : (s.idle).xf = s.xf := rfl
@[simp] theorem State.idle_dcbPending (s : State) : (s.idle).dcbPending = s.dcbPending := rfl
@[simp] theorem State.idle_planes (s : State) : (s.idle).planes = s.planes := rfl
@[simp] theorem State.idle_pmr0 (s : State) : (s.idle).pmr0 = s.pmr0 := rfl
@[simp] theorem State.idle_pmr1 (s : State) : (s.idle).pmr1 = s.pmr1 := rfl
@[simp] theorem State.idle_clut0 (s : State) : (s.idle).clut0 = s.clut0 := rfl
@[simp] theorem State.idle_clut1 (s : State) : (s.idle).clut1 = s.clut1 := rfl
@[simp] theorem State.idle_tg (s : State) : (s.idle).tg = s.tg := rfl
@[simp] theorem State.idle_tram (s : State) : (s.idle).tram = s.tram := rfl
@[simp] theorem State.idle_analog (s : State) : (s.idle).analog = s.analog := rfl
@[simp] theorem State.idle_latch0 (s : State) : (s.idle).latch0 = s.latch0 := rfl
@[simp] theorem State.idle_latch1 (s : State) : (s.idle).latch1 = s.latch1 := rfl
@[simp] theorem State.idle_draws (s : State) : (s.idle).draws = s.draws := rfl
@[simp] theorem State.idle_tableDraws (s : State) : (s.idle).tableDraws = s.tableDraws := rfl
@[simp] theorem State.idle_lineDraws (s : State) : (s.idle).lineDraws = s.lineDraws := rfl
@[simp] theorem State.idle_inbox (s : State) : (s.idle).inbox = s.inbox := rfl
@[simp] theorem State.idle_out (s : State) : (s.idle).out = [] := rfl

/-! ### `State.setPmr` -/

@[simp] theorem State.setPmr_par (s : State) (i : Inst) (p : Pmr) : (s.setPmr i p).par = s.par := by cases i <;> rfl
@[simp] theorem State.setPmr_ce (s : State) (i : Inst) (p : Pmr) : (s.setPmr i p).ce = s.ce := by cases i <;> rfl
@[simp] theorem State.setPmr_hostdata (s : State) (i : Inst) (p : Pmr) : (s.setPmr i p).hostdata = s.hostdata := by cases i <;> rfl
@[simp] theorem State.setPmr_vint (s : State) (i : Inst) (p : Pmr) : (s.setPmr i p).vint = s.vint := by cases i <;> rfl
@[simp] theorem State.setPmr_dcbtmo (s : State) (i : Inst) (p : Pmr) : (s.setPmr i p).dcbtmo = s.dcbtmo := by cases i <;> rfl
@[simp] theorem State.setPmr_xf (s : State) (i : Inst) (p : Pmr) : (s.setPmr i p).xf = s.xf := by cases i <;> rfl
@[simp] theorem State.setPmr_dcbPending (s : State) (i : Inst) (p : Pmr) : (s.setPmr i p).dcbPending = s.dcbPending := by cases i <;> rfl
@[simp] theorem State.setPmr_planes (s : State) (i : Inst) (p : Pmr) : (s.setPmr i p).planes = s.planes := by cases i <;> rfl
@[simp] theorem State.setPmr_clut0 (s : State) (i : Inst) (p : Pmr) : (s.setPmr i p).clut0 = s.clut0 := by cases i <;> rfl
@[simp] theorem State.setPmr_clut1 (s : State) (i : Inst) (p : Pmr) : (s.setPmr i p).clut1 = s.clut1 := by cases i <;> rfl
@[simp] theorem State.setPmr_tg (s : State) (i : Inst) (p : Pmr) : (s.setPmr i p).tg = s.tg := by cases i <;> rfl
@[simp] theorem State.setPmr_tram (s : State) (i : Inst) (p : Pmr) : (s.setPmr i p).tram = s.tram := by cases i <;> rfl
@[simp] theorem State.setPmr_analog (s : State) (i : Inst) (p : Pmr) : (s.setPmr i p).analog = s.analog := by cases i <;> rfl
@[simp] theorem State.setPmr_latch0 (s : State) (i : Inst) (p : Pmr) : (s.setPmr i p).latch0 = s.latch0 := by cases i <;> rfl
@[simp] theorem State.setPmr_latch1 (s : State) (i : Inst) (p : Pmr) : (s.setPmr i p).latch1 = s.latch1 := by cases i <;> rfl
@[simp] theorem State.setPmr_draws (s : State) (i : Inst) (p : Pmr) : (s.setPmr i p).draws = s.draws := by cases i <;> rfl
@[simp] theorem State.setPmr_tableDraws (s : State) (i : Inst) (p : Pmr) : (s.setPmr i p).tableDraws = s.tableDraws := by cases i <;> rfl
@[simp] theorem State.setPmr_lineDraws (s : State) (i : Inst) (p : Pmr) : (s.setPmr i p).lineDraws = s.lineDraws := by cases i <;> rfl
@[simp] theorem State.setPmr_inbox (s : State) (i : Inst) (p : Pmr) : (s.setPmr i p).inbox = s.inbox := by cases i <;> rfl
@[simp] theorem State.setPmr_out (s : State) (i : Inst) (p : Pmr) : (s.setPmr i p).out = s.out := by cases i <;> rfl

/-! ### `State.setClut` -/

@[simp] theorem State.setClut_par (s : State) (c : Inst) (k : Clut) : (s.setClut c k).par = s.par := by cases c <;> rfl
@[simp] theorem State.setClut_ce (s : State) (c : Inst) (k : Clut) : (s.setClut c k).ce = s.ce := by cases c <;> rfl
@[simp] theorem State.setClut_hostdata (s : State) (c : Inst) (k : Clut) : (s.setClut c k).hostdata = s.hostdata := by cases c <;> rfl
@[simp] theorem State.setClut_vint (s : State) (c : Inst) (k : Clut) : (s.setClut c k).vint = s.vint := by cases c <;> rfl
@[simp] theorem State.setClut_dcbtmo (s : State) (c : Inst) (k : Clut) : (s.setClut c k).dcbtmo = s.dcbtmo := by cases c <;> rfl
@[simp] theorem State.setClut_xf (s : State) (c : Inst) (k : Clut) : (s.setClut c k).xf = s.xf := by cases c <;> rfl
@[simp] theorem State.setClut_dcbPending (s : State) (c : Inst) (k : Clut) : (s.setClut c k).dcbPending = s.dcbPending := by cases c <;> rfl
@[simp] theorem State.setClut_planes (s : State) (c : Inst) (k : Clut) : (s.setClut c k).planes = s.planes := by cases c <;> rfl
@[simp] theorem State.setClut_pmr0 (s : State) (c : Inst) (k : Clut) : (s.setClut c k).pmr0 = s.pmr0 := by cases c <;> rfl
@[simp] theorem State.setClut_pmr1 (s : State) (c : Inst) (k : Clut) : (s.setClut c k).pmr1 = s.pmr1 := by cases c <;> rfl
@[simp] theorem State.setClut_tg (s : State) (c : Inst) (k : Clut) : (s.setClut c k).tg = s.tg := by cases c <;> rfl
@[simp] theorem State.setClut_tram (s : State) (c : Inst) (k : Clut) : (s.setClut c k).tram = s.tram := by cases c <;> rfl
@[simp] theorem State.setClut_analog (s : State) (c : Inst) (k : Clut) : (s.setClut c k).analog = s.analog := by cases c <;> rfl
@[simp] theorem State.setClut_latch0 (s : State) (c : Inst) (k : Clut) : (s.setClut c k).latch0 = s.latch0 := by cases c <;> rfl
@[simp] theorem State.setClut_latch1 (s : State) (c : Inst) (k : Clut) : (s.setClut c k).latch1 = s.latch1 := by cases c <;> rfl
@[simp] theorem State.setClut_draws (s : State) (c : Inst) (k : Clut) : (s.setClut c k).draws = s.draws := by cases c <;> rfl
@[simp] theorem State.setClut_tableDraws (s : State) (c : Inst) (k : Clut) : (s.setClut c k).tableDraws = s.tableDraws := by cases c <;> rfl
@[simp] theorem State.setClut_lineDraws (s : State) (c : Inst) (k : Clut) : (s.setClut c k).lineDraws = s.lineDraws := by cases c <;> rfl
@[simp] theorem State.setClut_inbox (s : State) (c : Inst) (k : Clut) : (s.setClut c k).inbox = s.inbox := by cases c <;> rfl
@[simp] theorem State.setClut_out (s : State) (c : Inst) (k : Clut) : (s.setClut c k).out = s.out := by cases c <;> rfl

/-! ### `State.setAux` -/

@[simp] theorem State.setAux_par (s : State) (d : AuxId) (f : AuxRegs) : (s.setAux d f).par = s.par := by cases d <;> rfl
@[simp] theorem State.setAux_ce (s : State) (d : AuxId) (f : AuxRegs) : (s.setAux d f).ce = s.ce := by cases d <;> rfl
@[simp] theorem State.setAux_hostdata (s : State) (d : AuxId) (f : AuxRegs) : (s.setAux d f).hostdata = s.hostdata := by cases d <;> rfl
@[simp] theorem State.setAux_vint (s : State) (d : AuxId) (f : AuxRegs) : (s.setAux d f).vint = s.vint := by cases d <;> rfl
@[simp] theorem State.setAux_dcbtmo (s : State) (d : AuxId) (f : AuxRegs) : (s.setAux d f).dcbtmo = s.dcbtmo := by cases d <;> rfl
@[simp] theorem State.setAux_xf (s : State) (d : AuxId) (f : AuxRegs) : (s.setAux d f).xf = s.xf := by cases d <;> rfl
@[simp] theorem State.setAux_dcbPending (s : State) (d : AuxId) (f : AuxRegs) : (s.setAux d f).dcbPending = s.dcbPending := by cases d <;> rfl
@[simp] theorem State.setAux_planes (s : State) (d : AuxId) (f : AuxRegs) : (s.setAux d f).planes = s.planes := by cases d <;> rfl
@[simp] theorem State.setAux_pmr0 (s : State) (d : AuxId) (f : AuxRegs) : (s.setAux d f).pmr0 = s.pmr0 := by cases d <;> rfl
@[simp] theorem State.setAux_pmr1 (s : State) (d : AuxId) (f : AuxRegs) : (s.setAux d f).pmr1 = s.pmr1 := by cases d <;> rfl
@[simp] theorem State.setAux_clut0 (s : State) (d : AuxId) (f : AuxRegs) : (s.setAux d f).clut0 = s.clut0 := by cases d <;> rfl
@[simp] theorem State.setAux_clut1 (s : State) (d : AuxId) (f : AuxRegs) : (s.setAux d f).clut1 = s.clut1 := by cases d <;> rfl
@[simp] theorem State.setAux_tg (s : State) (d : AuxId) (f : AuxRegs) : (s.setAux d f).tg = s.tg := by cases d <;> rfl
@[simp] theorem State.setAux_tram (s : State) (d : AuxId) (f : AuxRegs) : (s.setAux d f).tram = s.tram := by cases d <;> rfl
@[simp] theorem State.setAux_draws (s : State) (d : AuxId) (f : AuxRegs) : (s.setAux d f).draws = s.draws := by cases d <;> rfl
@[simp] theorem State.setAux_tableDraws (s : State) (d : AuxId) (f : AuxRegs) : (s.setAux d f).tableDraws = s.tableDraws := by cases d <;> rfl
@[simp] theorem State.setAux_lineDraws (s : State) (d : AuxId) (f : AuxRegs) : (s.setAux d f).lineDraws = s.lineDraws := by cases d <;> rfl
@[simp] theorem State.setAux_inbox (s : State) (d : AuxId) (f : AuxRegs) : (s.setAux d f).inbox = s.inbox := by cases d <;> rfl
@[simp] theorem State.setAux_out (s : State) (d : AuxId) (f : AuxRegs) : (s.setAux d f).out = s.out := by cases d <;> rfl

/-! ### Instances and planes -/

@[simp] theorem State.setPmr_pmr (s : State) (i j : Inst) (p : Pmr) :
    (s.setPmr i p).pmr j = if j = i then p else s.pmr j := by cases i <;> cases j <;> rfl
@[simp] theorem State.setClut_clut (s : State) (i j : Inst) (k : Clut) :
    (s.setClut i k).clut j = if j = i then k else s.clut j := by cases i <;> cases j <;> rfl
@[simp] theorem State.setAux_aux (s : State) (d e : AuxId) (f : AuxRegs) :
    (s.setAux d f).aux e = if e = d then f else s.aux e := by cases d <;> cases e <;> rfl
@[simp] theorem Planes.get_set (q : Planes) (p r : PlaneId) (m : Memory 32) :
    (q.set p m).get r = if r = p then m else q.get r := by cases p <;> cases r <;> rfl

@[simp] theorem State.setPmr_clut (s : State) (i : Inst) (p : Pmr) (j : Inst) : (s.setPmr i p).clut j = s.clut j := by cases i <;> cases j <;> rfl
@[simp] theorem State.setPmr_aux (s : State) (i : Inst) (p : Pmr) (j : AuxId) : (s.setPmr i p).aux j = s.aux j := by cases i <;> cases j <;> rfl
@[simp] theorem State.setClut_pmr (s : State) (i : Inst) (k : Clut) (j : Inst) : (s.setClut i k).pmr j = s.pmr j := by cases i <;> cases j <;> rfl
@[simp] theorem State.setClut_aux (s : State) (i : Inst) (k : Clut) (j : AuxId) : (s.setClut i k).aux j = s.aux j := by cases i <;> cases j <;> rfl
@[simp] theorem State.setAux_pmr (s : State) (i : AuxId) (f : AuxRegs) (j : Inst) : (s.setAux i f).pmr j = s.pmr j := by cases i <;> cases j <;> rfl
@[simp] theorem State.setAux_clut (s : State) (i : AuxId) (f : AuxRegs) (j : Inst) : (s.setAux i f).clut j = s.clut j := by cases i <;> cases j <;> rfl
@[simp] theorem State.setReg_pmr (s : State) (r : Reg) (v : W32) (j : Inst) : (s.setReg r v).pmr j = s.pmr j := by cases j <;> rfl
@[simp] theorem State.setReg_clut (s : State) (r : Reg) (v : W32) (j : Inst) : (s.setReg r v).clut j = s.clut j := by cases j <;> rfl
@[simp] theorem State.setReg_aux (s : State) (r : Reg) (v : W32) (j : AuxId) : (s.setReg r v).aux j = s.aux j := by cases j <;> rfl
@[simp] theorem State.setHostdata_pmr (s : State) (v : W64) (j : Inst) : (s.setHostdata v).pmr j = s.pmr j := by cases j <;> rfl
@[simp] theorem State.setHostdata_clut (s : State) (v : W64) (j : Inst) : (s.setHostdata v).clut j = s.clut j := by cases j <;> rfl
@[simp] theorem State.setHostdata_aux (s : State) (v : W64) (j : AuxId) : (s.setHostdata v).aux j = s.aux j := by cases j <;> rfl
@[simp] theorem State.setVint_pmr (s : State) (b : Bool) (j : Inst) : (s.setVint b).pmr j = s.pmr j := by cases j <;> rfl
@[simp] theorem State.setVint_clut (s : State) (b : Bool) (j : Inst) : (s.setVint b).clut j = s.clut j := by cases j <;> rfl
@[simp] theorem State.setVint_aux (s : State) (b : Bool) (j : AuxId) : (s.setVint b).aux j = s.aux j := by cases j <;> rfl
@[simp] theorem State.setDcbtmo_pmr (s : State) (b : Bool) (j : Inst) : (s.setDcbtmo b).pmr j = s.pmr j := by cases j <;> rfl
@[simp] theorem State.setDcbtmo_clut (s : State) (b : Bool) (j : Inst) : (s.setDcbtmo b).clut j = s.clut j := by cases j <;> rfl
@[simp] theorem State.setDcbtmo_aux (s : State) (b : Bool) (j : AuxId) : (s.setDcbtmo b).aux j = s.aux j := by cases j <;> rfl
@[simp] theorem State.setXf_pmr (s : State) (x : Xfer) (j : Inst) : (s.setXf x).pmr j = s.pmr j := by cases j <;> rfl
@[simp] theorem State.setXf_clut (s : State) (x : Xfer) (j : Inst) : (s.setXf x).clut j = s.clut j := by cases j <;> rfl
@[simp] theorem State.setXf_aux (s : State) (x : Xfer) (j : AuxId) : (s.setXf x).aux j = s.aux j := by cases j <;> rfl
@[simp] theorem State.setPending_pmr (s : State) (b : Bool) (j : Inst) : (s.setPending b).pmr j = s.pmr j := by cases j <;> rfl
@[simp] theorem State.setPending_clut (s : State) (b : Bool) (j : Inst) : (s.setPending b).clut j = s.clut j := by cases j <;> rfl
@[simp] theorem State.setPending_aux (s : State) (b : Bool) (j : AuxId) : (s.setPending b).aux j = s.aux j := by cases j <;> rfl
@[simp] theorem State.setPlane_pmr (s : State) (p : PlaneId) (m : Memory 32) (j : Inst) : (s.setPlane p m).pmr j = s.pmr j := by cases j <;> rfl
@[simp] theorem State.setPlane_clut (s : State) (p : PlaneId) (m : Memory 32) (j : Inst) : (s.setPlane p m).clut j = s.clut j := by cases j <;> rfl
@[simp] theorem State.setPlane_aux (s : State) (p : PlaneId) (m : Memory 32) (j : AuxId) : (s.setPlane p m).aux j = s.aux j := by cases j <;> rfl
@[simp] theorem State.setTg_pmr (s : State) (g : Tg) (j : Inst) : (s.setTg g).pmr j = s.pmr j := by cases j <;> rfl
@[simp] theorem State.setTg_clut (s : State) (g : Tg) (j : Inst) : (s.setTg g).clut j = s.clut j := by cases j <;> rfl
@[simp] theorem State.setTg_aux (s : State) (g : Tg) (j : AuxId) : (s.setTg g).aux j = s.aux j := by cases j <;> rfl
@[simp] theorem State.setTram_pmr (s : State) (m : Memory 16) (j : Inst) : (s.setTram m).pmr j = s.pmr j := by cases j <;> rfl
@[simp] theorem State.setTram_clut (s : State) (m : Memory 16) (j : Inst) : (s.setTram m).clut j = s.clut j := by cases j <;> rfl
@[simp] theorem State.setTram_aux (s : State) (m : Memory 16) (j : AuxId) : (s.setTram m).aux j = s.aux j := by cases j <;> rfl
@[simp] theorem State.setLineDraws_pmr (s : State) (n : Nat) (j : Inst) : (s.setLineDraws n).pmr j = s.pmr j := by cases j <;> rfl
@[simp] theorem State.setLineDraws_clut (s : State) (n : Nat) (j : Inst) : (s.setLineDraws n).clut j = s.clut j := by cases j <;> rfl
@[simp] theorem State.setLineDraws_aux (s : State) (n : Nat) (j : AuxId) : (s.setLineDraws n).aux j = s.aux j := by cases j <;> rfl
@[simp] theorem State.emit_pmr (s : State) (e : Output) (j : Inst) : (s.emit e).pmr j = s.pmr j := by cases j <;> rfl
@[simp] theorem State.emit_clut (s : State) (e : Output) (j : Inst) : (s.emit e).clut j = s.clut j := by cases j <;> rfl
@[simp] theorem State.emit_aux (s : State) (e : Output) (j : AuxId) : (s.emit e).aux j = s.aux j := by cases j <;> rfl
@[simp] theorem State.taking_pmr (s : State) (rest : List Request) (j : Inst) : (s.taking rest).pmr j = s.pmr j := by cases j <;> rfl
@[simp] theorem State.taking_clut (s : State) (rest : List Request) (j : Inst) : (s.taking rest).clut j = s.clut j := by cases j <;> rfl
@[simp] theorem State.taking_aux (s : State) (rest : List Request) (j : AuxId) : (s.taking rest).aux j = s.aux j := by cases j <;> rfl
@[simp] theorem State.idle_pmr (s : State) (j : Inst) : (s.idle).pmr j = s.pmr j := by cases j <;> rfl
@[simp] theorem State.idle_clut (s : State) (j : Inst) : (s.idle).clut j = s.clut j := by cases j <;> rfl
@[simp] theorem State.idle_aux (s : State) (j : AuxId) : (s.idle).aux j = s.aux j := by cases j <;> rfl

/-! ### The CE registers by name -/

@[simp] theorem CeRegs.get_set_same (c : CeRegs) (r : Reg) (v : W32) : (c.set r v).get r = v := by cases r <;> rfl

@[simp] theorem CeRegs.set_get (c : CeRegs) (r : Reg) : c.set r (c.get r) = c := by cases r <;> rfl

@[simp] theorem CeRegs.set_set (c : CeRegs) (r : Reg) (v w : W32) : (c.set r v).set r w = c.set r w := by cases r <;> rfl

/-- Two register files that read the same everywhere are the same. -/
theorem CeRegs.ext_get {c d : CeRegs} (h : ∀ r, c.get r = d.get r) : c = d := by
  cases c; cases d
  simp only [CeRegs.mk.injEq]
  exact ⟨h .drawmode0, h .drawmode1, h .wrmask, h .colori, h .xstart, h .ystart, h .xend, h .yend, h .xymove, h .clipmin, h .clipmax, h .red, h .green, h .blue, h .alpha, h .zacc, h .slopeR, h .slopeG, h .slopeB, h .slopeA, h .slopeZ, h .stipx0, h .stipx1, h .stipx2, h .stipx3, h .stipx4, h .stipy0, h .stipy1, h .stipy2, h .stipy3, h .stipy4, h .bresErr, h .bresInc1, h .bresInc2, h .bresCount, h .bresOctant, h .curxy, h .dcbmode, h .dcbdata0, h .dcbdata1⟩

@[simp] theorem CeRegs.set_drawmode0 (c : CeRegs) (r : Reg) (v : W32) : (c.set r v).drawmode0 = if r = .drawmode0 then v else c.drawmode0 := by cases r <;> rfl
@[simp] theorem CeRegs.set_drawmode1 (c : CeRegs) (r : Reg) (v : W32) : (c.set r v).drawmode1 = if r = .drawmode1 then v else c.drawmode1 := by cases r <;> rfl
@[simp] theorem CeRegs.set_wrmask (c : CeRegs) (r : Reg) (v : W32) : (c.set r v).wrmask = if r = .wrmask then v else c.wrmask := by cases r <;> rfl
@[simp] theorem CeRegs.set_colori (c : CeRegs) (r : Reg) (v : W32) : (c.set r v).colori = if r = .colori then v else c.colori := by cases r <;> rfl
@[simp] theorem CeRegs.set_xstart (c : CeRegs) (r : Reg) (v : W32) : (c.set r v).xstart = if r = .xstart then v else c.xstart := by cases r <;> rfl
@[simp] theorem CeRegs.set_ystart (c : CeRegs) (r : Reg) (v : W32) : (c.set r v).ystart = if r = .ystart then v else c.ystart := by cases r <;> rfl
@[simp] theorem CeRegs.set_xend (c : CeRegs) (r : Reg) (v : W32) : (c.set r v).xend = if r = .xend then v else c.xend := by cases r <;> rfl
@[simp] theorem CeRegs.set_yend (c : CeRegs) (r : Reg) (v : W32) : (c.set r v).yend = if r = .yend then v else c.yend := by cases r <;> rfl
@[simp] theorem CeRegs.set_xymove (c : CeRegs) (r : Reg) (v : W32) : (c.set r v).xymove = if r = .xymove then v else c.xymove := by cases r <;> rfl
@[simp] theorem CeRegs.set_clipmin (c : CeRegs) (r : Reg) (v : W32) : (c.set r v).clipmin = if r = .clipmin then v else c.clipmin := by cases r <;> rfl
@[simp] theorem CeRegs.set_clipmax (c : CeRegs) (r : Reg) (v : W32) : (c.set r v).clipmax = if r = .clipmax then v else c.clipmax := by cases r <;> rfl
@[simp] theorem CeRegs.set_red (c : CeRegs) (r : Reg) (v : W32) : (c.set r v).red = if r = .red then v else c.red := by cases r <;> rfl
@[simp] theorem CeRegs.set_green (c : CeRegs) (r : Reg) (v : W32) : (c.set r v).green = if r = .green then v else c.green := by cases r <;> rfl
@[simp] theorem CeRegs.set_blue (c : CeRegs) (r : Reg) (v : W32) : (c.set r v).blue = if r = .blue then v else c.blue := by cases r <;> rfl
@[simp] theorem CeRegs.set_alpha (c : CeRegs) (r : Reg) (v : W32) : (c.set r v).alpha = if r = .alpha then v else c.alpha := by cases r <;> rfl
@[simp] theorem CeRegs.set_zacc (c : CeRegs) (r : Reg) (v : W32) : (c.set r v).zacc = if r = .zacc then v else c.zacc := by cases r <;> rfl
@[simp] theorem CeRegs.set_slopeR (c : CeRegs) (r : Reg) (v : W32) : (c.set r v).slopeR = if r = .slopeR then v else c.slopeR := by cases r <;> rfl
@[simp] theorem CeRegs.set_slopeG (c : CeRegs) (r : Reg) (v : W32) : (c.set r v).slopeG = if r = .slopeG then v else c.slopeG := by cases r <;> rfl
@[simp] theorem CeRegs.set_slopeB (c : CeRegs) (r : Reg) (v : W32) : (c.set r v).slopeB = if r = .slopeB then v else c.slopeB := by cases r <;> rfl
@[simp] theorem CeRegs.set_slopeA (c : CeRegs) (r : Reg) (v : W32) : (c.set r v).slopeA = if r = .slopeA then v else c.slopeA := by cases r <;> rfl
@[simp] theorem CeRegs.set_slopeZ (c : CeRegs) (r : Reg) (v : W32) : (c.set r v).slopeZ = if r = .slopeZ then v else c.slopeZ := by cases r <;> rfl
@[simp] theorem CeRegs.set_stipx0 (c : CeRegs) (r : Reg) (v : W32) : (c.set r v).stipx0 = if r = .stipx0 then v else c.stipx0 := by cases r <;> rfl
@[simp] theorem CeRegs.set_stipx1 (c : CeRegs) (r : Reg) (v : W32) : (c.set r v).stipx1 = if r = .stipx1 then v else c.stipx1 := by cases r <;> rfl
@[simp] theorem CeRegs.set_stipx2 (c : CeRegs) (r : Reg) (v : W32) : (c.set r v).stipx2 = if r = .stipx2 then v else c.stipx2 := by cases r <;> rfl
@[simp] theorem CeRegs.set_stipx3 (c : CeRegs) (r : Reg) (v : W32) : (c.set r v).stipx3 = if r = .stipx3 then v else c.stipx3 := by cases r <;> rfl
@[simp] theorem CeRegs.set_stipx4 (c : CeRegs) (r : Reg) (v : W32) : (c.set r v).stipx4 = if r = .stipx4 then v else c.stipx4 := by cases r <;> rfl
@[simp] theorem CeRegs.set_stipy0 (c : CeRegs) (r : Reg) (v : W32) : (c.set r v).stipy0 = if r = .stipy0 then v else c.stipy0 := by cases r <;> rfl
@[simp] theorem CeRegs.set_stipy1 (c : CeRegs) (r : Reg) (v : W32) : (c.set r v).stipy1 = if r = .stipy1 then v else c.stipy1 := by cases r <;> rfl
@[simp] theorem CeRegs.set_stipy2 (c : CeRegs) (r : Reg) (v : W32) : (c.set r v).stipy2 = if r = .stipy2 then v else c.stipy2 := by cases r <;> rfl
@[simp] theorem CeRegs.set_stipy3 (c : CeRegs) (r : Reg) (v : W32) : (c.set r v).stipy3 = if r = .stipy3 then v else c.stipy3 := by cases r <;> rfl
@[simp] theorem CeRegs.set_stipy4 (c : CeRegs) (r : Reg) (v : W32) : (c.set r v).stipy4 = if r = .stipy4 then v else c.stipy4 := by cases r <;> rfl
@[simp] theorem CeRegs.set_bresErr (c : CeRegs) (r : Reg) (v : W32) : (c.set r v).bresErr = if r = .bresErr then v else c.bresErr := by cases r <;> rfl
@[simp] theorem CeRegs.set_bresInc1 (c : CeRegs) (r : Reg) (v : W32) : (c.set r v).bresInc1 = if r = .bresInc1 then v else c.bresInc1 := by cases r <;> rfl
@[simp] theorem CeRegs.set_bresInc2 (c : CeRegs) (r : Reg) (v : W32) : (c.set r v).bresInc2 = if r = .bresInc2 then v else c.bresInc2 := by cases r <;> rfl
@[simp] theorem CeRegs.set_bresCount (c : CeRegs) (r : Reg) (v : W32) : (c.set r v).bresCount = if r = .bresCount then v else c.bresCount := by cases r <;> rfl
@[simp] theorem CeRegs.set_bresOctant (c : CeRegs) (r : Reg) (v : W32) : (c.set r v).bresOctant = if r = .bresOctant then v else c.bresOctant := by cases r <;> rfl
@[simp] theorem CeRegs.set_curxy (c : CeRegs) (r : Reg) (v : W32) : (c.set r v).curxy = if r = .curxy then v else c.curxy := by cases r <;> rfl
@[simp] theorem CeRegs.set_dcbmode (c : CeRegs) (r : Reg) (v : W32) : (c.set r v).dcbmode = if r = .dcbmode then v else c.dcbmode := by cases r <;> rfl
@[simp] theorem CeRegs.set_dcbdata0 (c : CeRegs) (r : Reg) (v : W32) : (c.set r v).dcbdata0 = if r = .dcbdata0 then v else c.dcbdata0 := by cases r <;> rfl
@[simp] theorem CeRegs.set_dcbdata1 (c : CeRegs) (r : Reg) (v : W32) : (c.set r v).dcbdata1 = if r = .dcbdata1 then v else c.dcbdata1 := by cases r <;> rfl

/-- Writing one register leaves every other alone. -/
theorem CeRegs.get_set (c : CeRegs) (r q : Reg) (v : W32) : (c.set r v).get q = if q = r then v else c.get q := by
  cases q <;> simp [CeRegs.get, eq_comm]

end Sys2Proof.Machine
end

