-- ==== Sys2Proof/Laws/Planes.lean ====
section
/-! SUPPORT. What the plane and TRAM operations do (20_memory.md R62, R63, R75). -/

namespace Sys2Proof.Machine

theorem PlaneId.num_inj {p q : PlaneId} (h : p.num = q.num) : p = q := by cases p <;> cases q <;> first | rfl | cases h

/-- A pixel inside the plane has an address below FB_W * FB_H. -/
theorem planeAddr_lt {s : State} {x y : Int} (h : boundsPass s x y = true) : planeAddr s x y < s.par.fbW * s.par.fbH := by
  simp only [boundsPass, Bool.and_eq_true, decide_eq_true_eq] at h
  obtain ⟨⟨⟨h1, h2⟩, h3⟩, h4⟩ := h
  have hx : x.toNat < s.par.fbW := by omega
  have hy : y.toNat + 1 ≤ s.par.fbH := by omega
  calc planeAddr s x y = y.toNat * s.par.fbW + x.toNat := rfl
    _ < (y.toNat + 1) * s.par.fbW := by rw [Nat.add_mul]; omega
    _ ≤ s.par.fbH * s.par.fbW := Nat.mul_le_mul_right _ hy
    _ = _ := Nat.mul_comm _ _

/-- Two pixels inside the plane with one address are one pixel. -/
theorem planeAddr_inj {s : State} {x y u v : Int} (h : boundsPass s x y = true) (k : boundsPass s u v = true)
    (e : planeAddr s x y = planeAddr s u v) : x = u ∧ y = v := by
  simp only [boundsPass, Bool.and_eq_true, decide_eq_true_eq] at h k
  obtain ⟨⟨⟨h1, h2⟩, h3⟩, h4⟩ := h
  obtain ⟨⟨⟨k1, k2⟩, k3⟩, k4⟩ := k
  simp only [planeAddr] at e
  have hx : x.toNat < s.par.fbW := by omega
  have hu : u.toNat < s.par.fbW := by omega
  have hW : 0 < s.par.fbW := by omega
  have ey : y.toNat = v.toNat := by
    have := congrArg (· / s.par.fbW) e
    simpa [Nat.mul_comm _ s.par.fbW, Nat.mul_add_div hW, Nat.div_eq_of_lt hx, Nat.div_eq_of_lt hu] using this
  rw [ey] at e
  omega

/-- A plane write changes the planes only. -/
theorem planeWrite_eq (s : State) (p : PlaneId) (x y : Int) (v : W32) :
    planeWrite s p x y v = { s with planes := (planeWrite s p x y v).planes } := by
  unfold planeWrite
  split <;> rfl

/-- The whole of a plane write, seen through any cell: the cell of the pixel written, in the plane written, holds the value;
every other cell holds what it held. -/
theorem cellAt_planeWrite (s : State) (p q : PlaneId) (x y : Int) (v : W32) (a : Nat) :
    cellAt (planeWrite s p x y v) q a = if boundsPass s x y = true ∧ q = p ∧ a = planeAddr s x y then v else cellAt s q a := by
  unfold planeWrite
  split
  · rename_i hb
    simp only [cellAt, State.setPlane_planes, Planes.get_set, State.setPlane_draws, hb, true_and]
    by_cases hq : q = p
    · subst hq
      simp only [if_true, Memory.get?_set, true_and]
      by_cases ha : a = planeAddr s x y <;> simp [ha]
    · simp [hq]
  · rename_i hb
    simp [hb]

@[simp] theorem boundsPass_planeWrite (s : State) (p : PlaneId) (x y : Int) (v : W32) (u w : Int) :
    boundsPass (planeWrite s p x y v) u w = boundsPass s u w := by rw [planeWrite_eq]; rfl

/-- The whole of a plane write, seen through any pixel read. -/
theorem planeRead_planeWrite (s : State) (p q : PlaneId) (x y u w : Int) (v : W32) :
    planeRead (planeWrite s p x y v) q u w =
      if boundsPass s x y = true ∧ q = p ∧ u = x ∧ w = y then v else planeRead s q u w := by
  have hA : planeAddr (planeWrite s p x y v) u w = planeAddr s u w := by rw [planeWrite_eq]; rfl
  simp only [planeRead, boundsPass_planeWrite, hA, cellAt_planeWrite]
  by_cases hu : boundsPass s u w = true
  · simp only [hu, if_true]
    by_cases hb : boundsPass s x y = true
    · by_cases hq : q = p
      · by_cases hxy : u = x ∧ w = y
        · obtain ⟨rfl, rfl⟩ := hxy
          simp [hb, hq]
        · have : ¬ planeAddr s u w = planeAddr s x y := fun e => hxy (planeAddr_inj hu hb e)
          simp [hq, this, hxy]
      · simp [hq]
    · simp [hb]
  · simp only [hu]
    by_cases hxy : u = x ∧ w = y
    · obtain ⟨rfl, rfl⟩ := hxy
      simp [hu]
    · simp [hxy]

/-- A plane write keeps the canonical form of every plane. -/
theorem planes_wf_planeWrite {s : State} (h : ∀ q, (s.planes.get q).wf (s.par.fbW * s.par.fbH) = true) (p : PlaneId)
    (x y : Int) (v : W32) (q : PlaneId) :
    ((planeWrite s p x y v).planes.get q).wf (s.par.fbW * s.par.fbH) = true := by
  unfold planeWrite
  split
  · rename_i hb
    simp only [State.setPlane_planes, Planes.get_set]
    split
    · exact Memory.wf_set v (h p) (planeAddr_lt hb)
    · exact h q
  · exact h q

/-- The whole of a TRAM write, seen through any TRAM read. -/
theorem tramRead_tramWrite (s : State) (a b : Nat) (v : W16) :
    tramRead (tramWrite s a v) b = if b % s.par.tramWords = a % s.par.tramWords then v else tramRead s b := by
  simp only [tramRead, tramWrite, State.setTram_tram, State.setTram_par, State.setTram_draws, Memory.get?_set]
  split <;> rfl

end Sys2Proof.Machine
end

