-- ==== Sys2Proof/Laws/Dcb.lean ====
section
/-! SUPPORT. What the register writes of the sub-devices do to their tables (45_pixel_mode_resolver.md R256, 46_color_lookup.md
R273 to R276, 48_dcb.md R346). -/

namespace Sys2Proof.Machine

@[simp] theorem State.clut_setClut (s : State) (c : Inst) (t : Clut) (d : Inst) :
    (s.setClut c t).clut d = if d = c then t else s.clut d := by cases c <;> cases d <;> rfl

@[simp] theorem State.pmr_setPmr (s : State) (i : Inst) (p : Pmr) (j : Inst) :
    (s.setPmr i p).pmr j = if j = i then p else s.pmr j := by cases i <;> cases j <;> rfl

/-- The whole of a CLUT register write, seen through any entry: DATA stores at INDEX, everything else leaves the table (R273,
R275). -/
theorem clutEntry_clutWrite (c d : Inst) (r : BitVec 4) (v : W32) (s : State) (i : Nat) :
    clutEntry (clutWrite c r v s) d i =
      if r = 1#4 ∧ d = c ∧ i % s.par.clutEntries = (s.clut c).index % s.par.clutEntries then v.setWidth 24 else clutEntry s d i := by
  have hset : ∀ (t : Clut), (s.setClut c t).par = s.par ∧ (s.setClut c t).tableDraws = s.tableDraws := by
    intro t; cases c <;> exact ⟨rfl, rfl⟩
  unfold clutWrite
  split
  · rename_i h
    have h1 : ¬ r = 1#4 := by rintro rfl; exact absurd h (by decide)
    simp only [clutEntry, hset, State.clut_setClut, h1, false_and, if_false]
    split
    · rename_i hd; rw [hd]
    · rfl
  · rename_i h
    have h1 : r = 1#4 := by apply BitVec.eq_of_toNat_eq; exact h
    simp only [clutEntry, hset, State.clut_setClut, h1, true_and]
    by_cases hd : d = c
    · subst hd
      simp only [if_true, Memory.get?_set, true_and]
      split <;> rfl
    · simp only [hd, if_false, false_and]
  · rename_i h0 h1
    have h1 : ¬ r = 1#4 := by rintro rfl; exact absurd rfl h1
    simp only [h1, false_and, if_false]

/-- The whole of a PMR register write, seen through any mode-table entry: MODE_DATA stores at MODE_INDEX, everything else leaves
the table (R256). -/
theorem modeTableEntry_pmrWrite (i d : Inst) (r : BitVec 4) (v : W32) (s : State) (j : Nat) :
    modeTableEntry (pmrWrite i r v s) d j =
      if r = 6#4 ∧ d = i ∧ j % 32 = (s.pmr i).modeIndex.toNat then v.setWidth 8 else modeTableEntry s d j := by
  have hset : ∀ (t : Pmr), (s.setPmr i t).tableDraws = s.tableDraws := by
    intro t; cases i <;> rfl
  have keep : ∀ (t : Pmr), t.mode = (s.pmr i).mode → modeTableEntry (s.setPmr i t) d j = modeTableEntry s d j := by
    intro t ht
    simp only [modeTableEntry, hset, State.pmr_setPmr]
    split
    · rename_i hd; rw [ht, hd]
    · rfl
  have other : r.toNat ≠ 6 → ¬ r = 6#4 := by rintro h rfl; exact h rfl
  unfold pmrWrite
  split
  case h_5 h =>
    have h6 : r = 6#4 := by apply BitVec.eq_of_toNat_eq; exact h
    simp only [modeTableEntry, hset, State.pmr_setPmr, h6, true_and]
    by_cases hd : d = i
    · subst hd
      simp only [if_true, Memory.get?_set, true_and]
      split <;> rfl
    · simp only [hd, if_false, false_and]
  all_goals
    have h6 : ¬ r = 6#4 := other (by omega)
    simp only [h6, false_and, if_false] <;> exact keep _ rfl

/-- The whole of a placeholder register write, seen through any register: the one selected takes all 32 bits (R346). -/
theorem aux_auxWrite (d : AuxId) (r : BitVec 4) (v : W32) (s : State) (j : Fin 16) :
    ((auxWrite d r v s).aux d).get j = if j = r.toFin then v else (s.aux d).get j := by
  have h : (auxWrite d r v s).aux d = (s.aux d).set r.toNat v r.isLt := by cases d <;> rfl
  rw [h]
  show ((s.aux d).set r.toNat v r.isLt)[j.val] = _
  rw [Vector.getElem_set]
  by_cases hj : j = r.toFin
  · subst hj; simp
  · have : ¬ r.toNat = j.val := fun e => hj (Fin.ext e.symm)
    simp only [this, hj, if_false]
    rfl

/-- A transaction that no component answers arms the timeout and does nothing else (R335, R336, R338). -/
theorem dcb_unanswered {slave : BitVec 4} (h : responds slave = false) (r : BitVec 4) (s : State) :
    dcbWriteTo slave r s = s.setPending true ∧ dcbReadFrom slave r s = s.setPending true := by
  simp [dcbWriteTo, dcbReadFrom, h]
  exact rfl

end Sys2Proof.Machine
end

