-- ==== Sys2Proof/Laws/Decode.lean ====
section
/-! SUPPORT. What the decoder reads from each form of request, and that its instructions are well formed. -/

namespace Sys2Proof

open Sys2Proof.Machine

/-- The key of a register is read as that register, with its width, direction and GO bit (R81). -/
theorem keyOf_fields (write go : Bool) (r : HostReg) :
    (keyOf write go r).getLsbD 13 = write ∧ (keyOf write go r).getLsbD 11 = go ∧
      hostRegAt ((keyOf write go r).getLsbD 12) ((keyOf write go r).extractLsb' 0 11).toNat = some r := by
  cases r with
  | ce q => cases q <;> cases write <;> cases go <;> decide
  | _ => cases write <;> cases go <;> decide

/-- What a host access to a register decodes to (R81, R84, R111). -/
theorem decodeHost_keyOf (write go : Bool) (r : HostReg) (v : W64) (m : Option W64) :
    decodeHost (keyOf write go r) v m =
      .ok (if write then (if go then goInstr r v (m.getD (BitVec.allOnes 64)) else writeInstr r v (m.getD (BitVec.allOnes 64)))
        else if go then readAliasInstr r else readInstr r) := by
  obtain ⟨h1, h2, h3⟩ := keyOf_fields write go r
  simp only [decodeHost, h1, h2, h3]
  cases write <;> cases go <;> rfl

/-- The commands are well formed. -/
theorem decodeCommand_wf (k : BitVec 5) : (decodeCommand k).wf = true := by revert k; decide

/-- The DCB transactions are well formed. -/
theorem decodeDcb_wf (k : BitVec 9) : (decodeDcb k).wf = true := by revert k; decide

end Sys2Proof
end

