-- ==== Sys2Proof/Laws/Pipeline.lean ====
section
/-! SUPPORT. What a pixel store and a visit do (42_pixel_pipeline.md R181, 43_rasterizer.md R218). -/

namespace Sys2Proof.Machine

/-! ## Only drawing -/

theorem State.onlyDrew_refl (s : State) : s.onlyDrew s := rfl

theorem State.onlyDrew_trans {s t u : State} (h : s.onlyDrew t) (k : t.onlyDrew u) : s.onlyDrew u := by
  unfold State.onlyDrew at *
  rw [k, h]

/-- A state that differs in the planes only has only drawn. -/
theorem State.onlyDrew_planes (s : State) (q : Planes) : s.onlyDrew { s with planes := q } := rfl

/-! ## One plane's store -/

theorem storePlane_eq (x y : Int) (src : PlaneId → W32) (s : State) (p : PlaneId) :
    storePlane x y src s p = { s with planes := (storePlane x y src s p).planes } := by
  unfold storePlane
  split
  · exact planeWrite_eq ..
  · rfl

theorem cellAt_storePlane (x y : Int) (src : PlaneId → W32) (s : State) (p q : PlaneId) (a : Nat) :
    cellAt (storePlane x y src s p) q a =
      if boundsPass s x y = true ∧ s.planeEnabled p = true ∧ q = p ∧ a = planeAddr s x y
      then storeValue s (cellAt s p (planeAddr s x y)) (src p) else cellAt s q a := by
  unfold storePlane
  by_cases he : s.planeEnabled p = true
  · by_cases hb : boundsPass s x y = true
    · simp [he, hb, cellAt_planeWrite, planeRead]
    · simp [he, hb, cellAt_planeWrite]
  · simp [he]

/-! ## The whole store -/

theorem plot_eq (x y : Int) (src : PlaneId → W32) (s : State) :
    plot x y src s = { s with planes := (plot x y src s).planes } := by
  unfold plot
  split
  · simp only [planeOrder, List.foldl]
    rw [storePlane_eq, storePlane_eq, storePlane_eq, storePlane_eq]
  · rfl

/-- A store changes nothing but planes. -/
theorem plot_onlyDrew (x y : Int) (src : PlaneId → W32) (s : State) : s.onlyDrew (plot x y src s) := by
  rw [plot_eq]; rfl

@[simp] theorem plot_ce (x y : Int) (src : PlaneId → W32) (s : State) : (plot x y src s).ce = s.ce := by rw [plot_eq]
@[simp] theorem plot_par (x y : Int) (src : PlaneId → W32) (s : State) : (plot x y src s).par = s.par := by rw [plot_eq]
@[simp] theorem plot_xf (x y : Int) (src : PlaneId → W32) (s : State) : (plot x y src s).xf = s.xf := by rw [plot_eq]
@[simp] theorem plot_draws (x y : Int) (src : PlaneId → W32) (s : State) : (plot x y src s).draws = s.draws := by
  rw [plot_eq]

/-- What the tests, the operands and the stored value of a position depend on: the parameters and the CE registers. -/
theorem storeValue_congr {s t : State} (hc : t.ce = s.ce) (old src : W32) : storeValue t old src = storeValue s old src := by
  have h : storeValue t old src = storeValue { s with ce := t.ce } old src := rfl
  rw [h, hc]

theorem planeEnabled_congr {s t : State} (hc : t.ce = s.ce) (p : PlaneId) : t.planeEnabled p = s.planeEnabled p := by
  unfold State.planeEnabled; rw [hc]

theorem boundsPass_congr {s t : State} (hp : t.par = s.par) (x y : Int) : boundsPass t x y = boundsPass s x y := by
  simp only [boundsPass, hp]

theorem planeAddr_congr {s t : State} (hp : t.par = s.par) (x y : Int) : planeAddr t x y = planeAddr s x y := by
  simp only [planeAddr, hp]

theorem positionPass_congr {s t : State} (hp : t.par = s.par) (hc : t.ce = s.ce) (x y : Int) :
    positionPass t x y = positionPass s x y := by
  unfold positionPass clipPass stipplePass stipX stipY State.stipen State.patsel
  rw [boundsPass_congr hp, hc]

/-- The whole of a store, seen through any cell: in each enabled plane the pixel's cell takes the stored value, when the
position passes its tests; every other cell keeps what it held (R181). -/
theorem cellAt_plot (x y : Int) (src : PlaneId → W32) (s : State) (q : PlaneId) (a : Nat) :
    cellAt (plot x y src s) q a =
      if positionPass s x y = true ∧ s.planeEnabled q = true ∧ a = planeAddr s x y
      then storeValue s (cellAt s q a) (src q) else cellAt s q a := by
  unfold plot
  by_cases hp : positionPass s x y = true
  · have hb : boundsPass s x y = true := by
      simp only [positionPass, Bool.and_eq_true] at hp
      exact hp.1.2
    simp only [hp, if_true, planeOrder, List.foldl, true_and]
    have key : ∀ (t : State) (p : PlaneId), t.par = s.par → t.ce = s.ce → t.draws = s.draws →
        (storePlane x y src t p).par = s.par ∧ (storePlane x y src t p).ce = s.ce ∧ (storePlane x y src t p).draws = s.draws ∧
        ∀ q a, cellAt (storePlane x y src t p) q a =
          if s.planeEnabled p = true ∧ q = p ∧ a = planeAddr s x y
          then storeValue s (cellAt t p (planeAddr s x y)) (src p) else cellAt t q a := by
      intro t p h1 h2 h3
      refine ⟨by rw [storePlane_eq]; exact h1, by rw [storePlane_eq]; exact h2, by rw [storePlane_eq]; exact h3, ?_⟩
      intro q a
      rw [cellAt_storePlane, boundsPass_congr h1, planeAddr_congr h1, storeValue_congr h2, planeEnabled_congr h2]
      simp only [hb, true_and]
    obtain ⟨a1, a2, a3, a4⟩ := key s .primary rfl rfl rfl
    obtain ⟨b1, b2, b3, b4⟩ := key _ .overlay a1 a2 a3
    obtain ⟨c1, c2, c3, c4⟩ := key _ .popup b1 b2 b3
    obtain ⟨_, _, _, d4⟩ := key _ .cid c1 c2 c3
    rw [d4, c4, b4, a4]
    by_cases ha : a = planeAddr s x y
    · subst ha
      cases q <;> simp [c4, b4, a4]
    · simp [ha, c4, b4, a4]
  · simp [hp]

/-- The whole of a store, seen through any pixel read (R181). -/
theorem planeRead_plot (x y : Int) (src : PlaneId → W32) (s : State) (q : PlaneId) (u w : Int) :
    planeRead (plot x y src s) q u w =
      if positionPass s x y = true ∧ s.planeEnabled q = true ∧ u = x ∧ w = y
      then storeValue s (planeRead s q u w) (src q) else planeRead s q u w := by
  simp only [planeRead, boundsPass_congr (plot_par ..), planeAddr_congr (plot_par ..), cellAt_plot]
  by_cases hp : positionPass s x y = true
  · have hb : boundsPass s x y = true := by
      simp only [positionPass, Bool.and_eq_true] at hp
      exact hp.1.2
    by_cases hu : boundsPass s u w = true
    · by_cases hxy : u = x ∧ w = y
      · obtain ⟨rfl, rfl⟩ := hxy
        simp [hu]
      · have : ¬ planeAddr s u w = planeAddr s x y := fun e => hxy (planeAddr_inj hu hb e)
        simp [hu, this, hxy]
    · have hxy : ¬ (u = x ∧ w = y) := by rintro ⟨rfl, rfl⟩; exact hu hb
      simp [hu, hxy]
  · simp [hp]

/-- A store keeps the canonical form of every plane. -/
theorem planes_wf_plot {s : State} (h : ∀ q, (s.planes.get q).wf (s.par.fbW * s.par.fbH) = true) (x y : Int)
    (src : PlaneId → W32) (q : PlaneId) : ((plot x y src s).planes.get q).wf (s.par.fbW * s.par.fbH) = true := by
  have step : ∀ (t : State) (p : PlaneId), t.par = s.par → (∀ q, (t.planes.get q).wf (s.par.fbW * s.par.fbH) = true) →
      (storePlane x y src t p).par = s.par ∧
      ∀ q, ((storePlane x y src t p).planes.get q).wf (s.par.fbW * s.par.fbH) = true := by
    intro t p h1 h2
    refine ⟨by rw [storePlane_eq]; exact h1, fun q => ?_⟩
    unfold storePlane
    split
    · rw [← h1]; rw [← h1] at h2; exact planes_wf_planeWrite h2 p x y _ q
    · exact h2 q
  unfold plot
  split
  · simp only [planeOrder, List.foldl]
    obtain ⟨a1, a2⟩ := step s .primary rfl h
    obtain ⟨b1, b2⟩ := step _ .overlay a1 a2
    obtain ⟨c1, c2⟩ := step _ .popup b1 b2
    exact (step _ .cid c1 c2).2 q
  · exact h q

/-! ## The shading advance and the visit -/

/-- A visit changes nothing but planes and accumulators. -/
theorem visit_onlyDrew (x y : Int) (s : State) : s.onlyDrew (visit x y s) := by
  unfold visit
  simp only
  have h : s.onlyDrew (plot x y (fun _ => fillSource s) s) := plot_onlyDrew ..
  split
  · exact State.onlyDrew_trans h rfl
  · exact h

theorem colorsrc_congr {s t : State} (hc : t.ce = s.ce) : t.colorsrc = s.colorsrc := by unfold State.colorsrc; rw [hc]

theorem shadeAdvance_ce_congr {s t : State} (hc : t.ce = s.ce) : (shadeAdvance t).ce = (shadeAdvance s).ce := by
  simp only [shadeAdvance, hc]

/-- The CE registers after a visit: advanced when shading is enabled, else as before. -/
theorem visit_ce (x y : Int) (s : State) : (visit x y s).ce = if s.colorsrc = 1 then (shadeAdvance s).ce else s.ce := by
  unfold visit
  simp only
  rw [colorsrc_congr (plot_ce x y _ s)]
  split
  · exact shadeAdvance_ce_congr (plot_ce ..)
  · exact plot_ce ..

theorem visit_planes (x y : Int) (s : State) : (visit x y s).planes = (plot x y (fun _ => fillSource s) s).planes := by
  unfold visit
  simp only
  split <;> rfl

theorem cellAt_planes_congr {s t : State} (h : t.planes = s.planes) (hd : t.draws = s.draws) (q : PlaneId) (a : Nat) :
    cellAt t q a = cellAt s q a := by simp only [cellAt, h, hd]

theorem planeRead_planes_congr {s t : State} (h : t.planes = s.planes) (hd : t.draws = s.draws) (hp : t.par = s.par)
    (q : PlaneId) (x y : Int) : planeRead t q x y = planeRead s q x y := by
  simp only [planeRead, boundsPass_congr hp, planeAddr_congr hp, cellAt_planes_congr h hd]

theorem State.onlyDrew_par {s t : State} (h : s.onlyDrew t) : t.par = s.par := by rw [h]
theorem State.onlyDrew_draws {s t : State} (h : s.onlyDrew t) : t.draws = s.draws := by rw [h]
theorem State.onlyDrew_xf {s t : State} (h : s.onlyDrew t) : t.xf = s.xf := by rw [h]
theorem State.onlyDrew_colorsrc {s t : State} (h : s.onlyDrew t) : t.colorsrc = s.colorsrc := by rw [h]; rfl
theorem State.onlyDrew_endpt {s t : State} (h : s.onlyDrew t) : t.endpt = s.endpt := by rw [h]; rfl
theorem State.onlyDrew_planeEnabled {s t : State} (h : s.onlyDrew t) (p : PlaneId) : t.planeEnabled p = s.planeEnabled p := by
  rw [h]; rfl
theorem State.onlyDrew_depth {s t : State} (h : s.onlyDrew t) : t.depth = s.depth := by rw [h]; rfl
theorem State.onlyDrew_boundsPass {s t : State} (h : s.onlyDrew t) (x y : Int) : boundsPass t x y = boundsPass s x y :=
  boundsPass_congr (State.onlyDrew_par h) x y
theorem State.onlyDrew_planeAddr {s t : State} (h : s.onlyDrew t) (x y : Int) : planeAddr t x y = planeAddr s x y :=
  planeAddr_congr (State.onlyDrew_par h) x y
theorem State.onlyDrew_positionPass {s t : State} (h : s.onlyDrew t) (x y : Int) : positionPass t x y = positionPass s x y := by
  unfold positionPass clipPass stipplePass stipX stipY State.stipen State.patsel
  rw [State.onlyDrew_boundsPass h, h]

/-- The whole of a visit, seen through any cell. -/
theorem cellAt_visit (x y : Int) (s : State) (q : PlaneId) (a : Nat) :
    cellAt (visit x y s) q a =
      if positionPass s x y = true ∧ s.planeEnabled q = true ∧ a = planeAddr s x y
      then storeValue s (cellAt s q a) (fillSource s) else cellAt s q a := by
  have hd : (visit x y s).draws = (plot x y (fun _ => fillSource s) s).draws := by
    rw [State.onlyDrew_draws (visit_onlyDrew x y s), plot_draws]
  rw [cellAt_planes_congr (visit_planes x y s) hd, cellAt_plot]

/-- The whole of a visit, seen through any pixel read. -/
theorem planeRead_visit (x y : Int) (s : State) (q : PlaneId) (u w : Int) :
    planeRead (visit x y s) q u w =
      if positionPass s x y = true ∧ s.planeEnabled q = true ∧ u = x ∧ w = y
      then storeValue s (planeRead s q u w) (fillSource s) else planeRead s q u w := by
  have h := visit_onlyDrew x y s
  have hd : (visit x y s).draws = (plot x y (fun _ => fillSource s) s).draws := by
    rw [State.onlyDrew_draws h, plot_draws]
  have hp : (visit x y s).par = (plot x y (fun _ => fillSource s) s).par := by rw [State.onlyDrew_par h, plot_par]
  rw [planeRead_planes_congr (visit_planes x y s) hd hp, planeRead_plot]

/-- A visit keeps the canonical form of every plane. -/
theorem planes_wf_visit {s : State} (h : ∀ q, (s.planes.get q).wf (s.par.fbW * s.par.fbH) = true) (x y : Int) (q : PlaneId) :
    ((visit x y s).planes.get q).wf (s.par.fbW * s.par.fbH) = true := by
  rw [visit_planes]; exact planes_wf_plot h x y _ q

end Sys2Proof.Machine
end

