-- ==== Sys2Proof/Laws/Raster.lean ====
section
/-! SUPPORT. What a line does: the stepper's positions in closed form, the registers it leaves, and a general lemma about cells
stored one position after another (43_rasterizer.md R212 to R223). -/

namespace Sys2Proof.Machine

/-! ## Stores one after another -/

/-- Cells stored at positions that are all different: each position's cell takes its own store, every other cell keeps its
value. `R k` is what the planes read after `k` stores. -/
theorem stores_at_distinct {R : Nat → PlaneId → Int → Int → W32} {x y : Nat → Int} {n : Nat} {c : Nat → PlaneId → Prop}
    [∀ k p, Decidable (c k p)] {st : Nat → PlaneId → W32 → W32}
    (h : ∀ k < n, ∀ p u w, R (k + 1) p u w = if c k p ∧ u = x k ∧ w = y k then st k p (R k p u w) else R k p u w)
    (inj : ∀ j k, j < k → k < n → ¬ (x j = x k ∧ y j = y k)) :
    (∀ k < n, ∀ p, R n p (x k) (y k) = if c k p then st k p (R 0 p (x k) (y k)) else R 0 p (x k) (y k)) ∧
      ∀ p u w, (∀ k < n, ¬ (u = x k ∧ w = y k)) → R n p u w = R 0 p u w := by
  have out : ∀ m ≤ n, ∀ p u w, (∀ k < m, ¬ (u = x k ∧ w = y k)) → R m p u w = R 0 p u w := by
    intro m hm p u w hu
    induction m with
    | zero => rfl
    | succ k ih =>
      rw [h k (by omega), if_neg (fun q => hu k (by omega) q.2)]
      exact ih (by omega) fun j hj => hu j (by omega)
  refine ⟨fun k hk p => ?_, out n le_rfl⟩
  have later : ∀ m, k < m → m ≤ n → R m p (x k) (y k) = R (k + 1) p (x k) (y k) := by
    intro m hkm hm
    induction m with
    | zero => omega
    | succ j ih =>
      by_cases hj : k = j
      · rw [hj]
      · rw [h j (by omega), if_neg (fun q => inj k j (by omega) (by omega) q.2)]
        exact ih (by omega) (by omega)
  rw [later n hk le_rfl, h k hk, out k hk.le p _ _ fun j hj => fun q => inj j k hj hk ⟨q.1.symm, q.2.symm⟩]
  simp

/-! ## The advance of the accumulators -/

theorem State.advancedBy_zero (s : State) : s.advancedBy 0 = s := by
  unfold State.advancedBy
  split
  · simp
  · rfl

/-- What a visit leaves in the CE registers, after `n` visits before it. -/
theorem ce_advancedBy_succ (s : State) (n : Nat) :
    (s.advancedBy (n + 1)).ce =
      if s.colorsrc = 1 then (shadeAdvance (s.advancedBy n)).ce else (s.advancedBy n).ce := by
  unfold State.advancedBy
  split
  · have h : ∀ a b : W32, a + BitVec.ofNat 32 (n + 1) * b = a + BitVec.ofNat 32 n * b + b := by
      intro a b
      rw [BitVec.ofNat_add, BitVec.add_mul, BitVec.add_assoc, BitVec.one_mul]
    simp only [shadeAdvance, h]
  · rfl

theorem State.advancedBy_colorsrc (s : State) (n : Nat) : (s.advancedBy n).colorsrc = s.colorsrc := by
  unfold State.advancedBy; split <;> rfl

theorem State.advancedBy_planes (s : State) (n : Nat) : (s.advancedBy n).planes = s.planes := by
  unfold State.advancedBy; split <;> rfl

/-- The accumulators' advance changes nothing but the accumulators. -/
theorem State.advancedBy_onlyDrew (s : State) (n : Nat) : s.onlyDrew (s.advancedBy n) := by
  unfold State.advancedBy; split <;> rfl

/-! ## The stepper -/

theorem lineRun_succ (l : LineSetup) (n : Nat) (t : Stepper) : lineRun l (n + 1) t = lineStep l (lineRun l n t) := by
  induction n generalizing t with
  | zero => rfl
  | succ k ih => rw [lineRun, ih, lineRun]

/-- The setup's dominant span is the larger, and every span of a line between coordinates is at most 65535 (R212, R88). -/
theorem lineSetup_spans {x0 y0 x1 y1 : Int} (h0 : coordinateOk x0) (h1 : coordinateOk y0) (h2 : coordinateOk x1)
    (h3 : coordinateOk y1) :
    (lineSetup x0 y0 x1 y1).minor ≤ (lineSetup x0 y0 x1 y1).major ∧ (lineSetup x0 y0 x1 y1).major ≤ 65535 := by
  obtain ⟨a1, a2⟩ := h0
  obtain ⟨b1, b2⟩ := h1
  obtain ⟨c1, c2⟩ := h2
  obtain ⟨d1, d2⟩ := h3
  simp only [lineSetup]
  by_cases h : (x1 - x0).natAbs < (y1 - y0).natAbs <;> simp only [h, decide_true, decide_false, if_true] <;>
    constructor <;> first | omega | (simp; omega)

/-- The other axis's count rises by zero or one from step to step, by one exactly where the decision variable of R214 is not
negative. -/
theorem LineSetup.minorAt_succ {l : LineSetup} (hm : l.minor ≤ l.major) (hM : 0 < l.major) (k : Nat) :
    l.minorAt (k + 1) = if 2 * l.major * (l.minorAt k + 1) ≤ 2 * l.minor * (k + 1) + l.major then l.minorAt k + 1
      else l.minorAt k := by
  unfold LineSetup.minorAt
  have hd : 0 < 2 * l.major := by omega
  generalize hq : (2 * l.minor * k + l.major) / (2 * l.major) = q
  have h1 : q * (2 * l.major) ≤ 2 * l.minor * k + l.major := by rw [← hq]; exact Nat.div_mul_le_self _ _
  have h2 : 2 * l.minor * k + l.major < (q + 1) * (2 * l.major) := by
    rw [← hq]; exact (Nat.div_lt_iff_lt_mul hd).mp (Nat.lt_succ_self _)
  have e : 2 * l.minor * (k + 1) = 2 * l.minor * k + 2 * l.minor := by ring
  split
  · rename_i h
    apply Nat.div_eq_of_lt_le
    · calc (q + 1) * (2 * l.major) = 2 * l.major * (q + 1) := Nat.mul_comm _ _
        _ ≤ _ := h
    · rw [e]
      have : (q + 1 + 1) * (2 * l.major) = (q + 1) * (2 * l.major) + 2 * l.major := by ring
      omega
  · rename_i h
    apply Nat.div_eq_of_lt_le
    · omega
    · have : (q + 1) * (2 * l.major) = 2 * l.major * (q + 1) := Nat.mul_comm _ _
      omega

theorem LineSetup.minorAt_zero {l : LineSetup} (hM : 0 < l.major) : l.minorAt 0 = 0 := by
  unfold LineSetup.minorAt
  exact Nat.div_eq_of_lt (by omega)

theorem LineSetup.minorAt_major {l : LineSetup} (hM : 0 < l.major) : l.minorAt l.major = l.minor := by
  unfold LineSetup.minorAt
  apply Nat.div_eq_of_lt_le
  · calc l.minor * (2 * l.major) = 2 * l.minor * l.major := by ring
      _ ≤ _ := Nat.le_add_right _ _
  · have : (l.minor + 1) * (2 * l.major) = 2 * l.minor * l.major + 2 * l.major := by ring
    omega

/-- The decision variable before step k + 1: 2 m (k + 1) - M - 2 M q_k, where q_k is the other axis's count (R214). -/
def LineSetup.errAt (l : LineSetup) (k : Nat) : Int :=
  2 * l.minor * (k + 1) - l.major - 2 * l.major * l.minorAt k

theorem LineSetup.errAt_range {l : LineSetup} (hM : 0 < l.major) (k : Nat) :
    2 * (l.minor : Int) - 2 * l.major ≤ l.errAt k ∧ l.errAt k < 2 * l.minor := by
  unfold LineSetup.errAt LineSetup.minorAt
  have hd : 0 < 2 * l.major := by omega
  generalize hq : (2 * l.minor * k + l.major) / (2 * l.major) = q
  have h1 : q * (2 * l.major) ≤ 2 * l.minor * k + l.major := by rw [← hq]; exact Nat.div_mul_le_self _ _
  have h2 : 2 * l.minor * k + l.major < (q + 1) * (2 * l.major) := by
    rw [← hq]; exact (Nat.div_lt_iff_lt_mul hd).mp (Nat.lt_succ_self _)
  zify at h1 h2
  constructor <;> nlinarith

theorem LineSetup.errAt_succ {l : LineSetup} (hm : l.minor ≤ l.major) (hM : 0 < l.major) (k : Nat) :
    l.errAt (k + 1) = l.errAt k + if 0 ≤ l.errAt k then 2 * (l.minor : Int) - 2 * l.major else 2 * l.minor := by
  have hs := LineSetup.minorAt_succ hm hM k
  have hiff : 2 * l.major * (l.minorAt k + 1) ≤ 2 * l.minor * (k + 1) + l.major ↔ 0 ≤ l.errAt k := by
    unfold LineSetup.errAt
    zify
    constructor <;> intro h <;> linarith
  simp only [hiff] at hs
  unfold LineSetup.errAt at *
  rw [hs]
  split <;> push_cast <;> ring

/-- Whether the step after the k-th position is diagonal, in terms of the decision variable. -/
theorem LineSetup.minorAt_succ_err {l : LineSetup} (hm : l.minor ≤ l.major) (hM : 0 < l.major) (k : Nat) :
    l.minorAt (k + 1) = if 0 ≤ l.errAt k then l.minorAt k + 1 else l.minorAt k := by
  have hiff : 2 * l.major * (l.minorAt k + 1) ≤ 2 * l.minor * (k + 1) + l.major ↔ 0 ≤ l.errAt k := by
    unfold LineSetup.errAt
    zify
    constructor <;> intro h <;> linarith
  rw [LineSetup.minorAt_succ hm hM k]
  simp only [hiff]

/-- The CE registers after `k` steps of a line started in `s`, in closed form. -/
def lineCe (l : LineSetup) (k : Nat) (s : State) : CeRegs :=
  { (s.advancedBy k).ce with
    bresOctant := l.octant, bresInc1 := BitVec.ofInt 32 (2 * l.minor), bresInc2 := BitVec.ofInt 32 (2 * l.minor - 2 * l.major),
    bresErr := BitVec.ofInt 32 (l.errAt k), bresCount := BitVec.ofNat 32 (l.major - k) }

theorem lineCe_colorsrc {s t : State} {l : LineSetup} {k : Nat} (h : t.ce = lineCe l k s) : t.colorsrc = s.colorsrc := by
  unfold State.colorsrc
  rw [h]
  exact State.advancedBy_colorsrc s k

theorem toInt_ofInt_small {z : Int} (h1 : -2147483648 ≤ z) (h2 : z < 2147483648) : (BitVec.ofInt 32 z).toInt = z := by
  rw [BitVec.toInt_ofInt]
  exact Int.bmod_eq_of_le (by norm_num; omega) (by norm_num; omega)

/-- The stepper after `k` steps, k at most M: it stands at the reference line's k-th position, and its state is the starting
state with the accumulators advanced k times, the BRES registers at their closed form and the planes stored to. -/
theorem lineRun_spec {l : LineSetup} (s : State) (hm : l.minor ≤ l.major) (hM : 0 < l.major) (hs : l.major ≤ 65535) {k : Nat}
    (hk : k ≤ l.major) :
    (lineRun l k (lineStart l s)).x = l.posX k ∧ (lineRun l k (lineStart l s)).y = l.posY k ∧
      (lineRun l k (lineStart l s)).s =
        { s with planes := (lineRun l k (lineStart l s)).s.planes, ce := lineCe l k s } := by
  induction k with
  | zero =>
    have h0 := LineSetup.minorAt_zero hM
    refine ⟨by simp [lineRun, lineStart, LineSetup.posX, h0], by simp [lineRun, lineStart, LineSetup.posY, h0], ?_⟩
    simp only [lineRun, lineStart, loadBres, lineCe, State.advancedBy_zero, LineSetup.errAt, h0, Nat.sub_zero]
    simp
  | succ k ih =>
    obtain ⟨hx, hy, hst⟩ := ih (by omega)
    rw [lineRun_succ]
    generalize hu : lineRun l k (lineStart l s) = u at hx hy hst ⊢
    have hce : u.s.ce = lineCe l k s := by rw [hst]
    have hv := visit_onlyDrew u.x u.y u.s
    have hvce : (visit u.x u.y u.s).ce = lineCe l k s ∧ ¬ s.colorsrc = 1 ∨
        (visit u.x u.y u.s).ce = (shadeAdvance u.s).ce ∧ s.colorsrc = 1 := by
      rw [visit_ce, lineCe_colorsrc hce, hce]
      by_cases hc : s.colorsrc = 1
      · simp [hc]
      · simp [hc]
    have hadv : (visit u.x u.y u.s).ce = { lineCe l (k + 1) s with
        bresErr := BitVec.ofInt 32 (l.errAt k), bresCount := BitVec.ofNat 32 (l.major - k) } := by
      rcases hvce with ⟨h, hc⟩ | ⟨h, hc⟩
      · rw [h]; simp only [lineCe, ce_advancedBy_succ, hc, if_false]
      · rw [h]; simp only [lineCe, ce_advancedBy_succ, hc, if_true, shadeAdvance, hce]
    have hErr : (BitVec.ofInt 32 (l.errAt k)).toInt = l.errAt k := by
      have := LineSetup.errAt_range hM k
      exact toInt_ofInt_small (by omega) (by omega)
    have hcount : BitVec.ofNat 32 (l.major - k) - 1 = BitVec.ofNat 32 (l.major - (k + 1)) := by
      rw [show l.major - k = l.major - (k + 1) + 1 by omega, BitVec.ofNat_add]
      exact BitVec.add_sub_cancel _ _
    have hnext : ∀ t : State, t = visit u.x u.y u.s →
        t = { s with planes := t.planes, ce := (visit u.x u.y u.s).ce } := by
      intro t ht
      subst ht
      have e := hv
      unfold State.onlyDrew at e
      generalize visit u.x u.y u.s = t at e ⊢
      rw [hst] at e
      rw [e]
    have hvs := hnext _ rfl
    have hq := LineSetup.minorAt_succ_err hm hM k
    have hE := LineSetup.errAt_succ hm hM k
    have hstep : lineStep l u = lineMove l { x := u.x, y := u.y, s := visit u.x u.y u.s } := rfl
    rw [hstep]
    generalize visit u.x u.y u.s = t at hvs hadv
    have hte : t.ce.bresErr.toInt = l.errAt k := by rw [hadv]; exact hErr
    unfold lineMove
    simp only [hte]
    by_cases hd : 0 ≤ l.errAt k
    · simp only [hd, if_true] at hq hE ⊢
      have hce' : { t.ce with bresErr := t.ce.bresErr + t.ce.bresInc2, bresCount := t.ce.bresCount - 1 } = lineCe l (k + 1) s := by
        rw [hadv]
        simp only [hcount]
        simp only [lineCe, hE, BitVec.ofInt_add]
      refine ⟨?_, ?_, ?_⟩
      · rw [hx]; unfold LineSetup.posX; rw [hq]; split <;> push_cast <;> ring
      · rw [hy]; unfold LineSetup.posY; rw [hq]; split <;> push_cast <;> ring
      · rw [hce', hvs]
    · simp only [hd, if_false] at hq hE ⊢
      have hce' : { t.ce with bresErr := t.ce.bresErr + t.ce.bresInc1, bresCount := t.ce.bresCount - 1 } = lineCe l (k + 1) s := by
        rw [hadv]
        simp only [hcount]
        simp only [lineCe, hE, BitVec.ofInt_add]
      refine ⟨?_, ?_, ?_⟩
      · rw [hx]; unfold LineSetup.posX; rw [hq]; split <;> push_cast <;> ring
      · rw [hy]; unfold LineSetup.posY; rw [hq]; split <;> push_cast <;> ring
      · rw [hce', hvs]

/-- The positions of a line are all different: the dominant coordinate moves at every step (R223). -/
theorem LineSetup.pos_distinct (l : LineSetup) {j k : Nat} (h : j < k) : ¬ (l.posX j = l.posX k ∧ l.posY j = l.posY k) := by
  rintro ⟨hx, hy⟩
  unfold LineSetup.posX at hx
  unfold LineSetup.posY at hy
  cases hm : l.ymaj <;> simp only [hm, if_true, Bool.false_eq_true, if_false] at hx hy
  · cases hs : l.sx <;> simp only [hs, Sign.toInt] at hx <;> omega
  · cases hs : l.sy <;> simp only [hs, Sign.toInt] at hy <;> omega

theorem State.advancedBy_hostdata (s : State) (n : Nat) : (s.advancedBy n).hostdata = s.hostdata := by
  unfold State.advancedBy; split <;> rfl

/-- The source value depends on the CE registers and HOSTDATA. -/
theorem fillSource_congr {s t : State} (hc : t.ce = s.ce) (hh : t.hostdata = s.hostdata) : fillSource t = fillSource s := by
  have h : fillSource t = fillSource { s with ce := t.ce, hostdata := t.hostdata } := rfl
  rw [h, hc, hh]

/-- What the tests, the planes and the stored value of a position are in the middle of a line. -/
theorem line_operands {s t : State} {l : LineSetup} {k : Nat} (h : t = { s with planes := t.planes, ce := lineCe l k s }) :
    (∀ x y, positionPass t x y = positionPass s x y) ∧ (∀ p, t.planeEnabled p = s.planeEnabled p) ∧
      (∀ old src, storeValue t old src = storeValue (s.advancedBy k) old src) ∧ fillSource t = fillSource (s.advancedBy k) := by
  have hc : t.ce = lineCe l k s := by rw [h]
  have ha := State.advancedBy_onlyDrew s k
  unfold State.onlyDrew at ha
  have hce : (s.advancedBy k).ce = { s.ce with
      red := (s.advancedBy k).ce.red, green := (s.advancedBy k).ce.green, blue := (s.advancedBy k).ce.blue,
      alpha := (s.advancedBy k).ce.alpha, zacc := (s.advancedBy k).ce.zacc } := by rw [ha]
  have hd : t.draws = s.draws := by rw [h]
  have hp : t.par = s.par := by rw [h]
  have hh : t.hostdata = (s.advancedBy k).hostdata := by rw [State.advancedBy_hostdata, h]
  refine ⟨fun x y => ?_, fun p => ?_, fun old src => ?_, ?_⟩
  · rw [positionPass_congr (s := { s with ce := lineCe l k s }) hp hc]
    unfold lineCe
    rw [hce]
    rfl
  · rw [planeEnabled_congr (s := { s with ce := lineCe l k s }) hc]
    unfold lineCe
    rw [hce]
    rfl
  · rw [storeValue_congr (s := { s.advancedBy k with ce := lineCe l k s }) hc]
    rfl
  · rw [fillSource_congr (s := { s.advancedBy k with ce := lineCe l k s }) hc hh]
    rfl

/-- One step of the line, seen through any pixel read: the k-th position is stored to. -/
theorem planeRead_lineRun_succ {l : LineSetup} (s : State) (hm : l.minor ≤ l.major) (hM : 0 < l.major) (hs : l.major ≤ 65535)
    {k : Nat} (hk : k ≤ l.major) (p : PlaneId) (u w : Int) :
    planeRead (visit (lineRun l k (lineStart l s)).x (lineRun l k (lineStart l s)).y (lineRun l k (lineStart l s)).s) p u w =
      if (positionPass s (l.posX k) (l.posY k) = true ∧ s.planeEnabled p = true) ∧ u = l.posX k ∧ w = l.posY k
      then storeValue (s.advancedBy k) (planeRead (lineRun l k (lineStart l s)).s p u w) (fillSource (s.advancedBy k))
      else planeRead (lineRun l k (lineStart l s)).s p u w := by
  obtain ⟨hx, hy, hst⟩ := lineRun_spec s hm hM hs hk
  obtain ⟨h1, h2, h3, h4⟩ := line_operands hst
  rw [planeRead_visit, hx, hy, h1, h2, h3, h4]
  simp only [and_assoc]

/-- The move from one position to the next leaves the planes alone. -/
theorem planeRead_lineMove (l : LineSetup) (t : Stepper) (p : PlaneId) (u w : Int) :
    planeRead (lineMove l t).s p u w = planeRead t.s p u w := by
  unfold lineMove
  simp only
  split <;> rfl

/-- Every plane keeps its canonical form along a line. -/
theorem planes_wf_lineRun {l : LineSetup} {t : Stepper}
    (h : ∀ q, (t.s.planes.get q).wf (t.s.par.fbW * t.s.par.fbH) = true) (n : Nat) :
    (lineRun l n t).s.par = t.s.par ∧
      ∀ q, ((lineRun l n t).s.planes.get q).wf (t.s.par.fbW * t.s.par.fbH) = true := by
  induction n with
  | zero => exact ⟨rfl, h⟩
  | succ k ih =>
    rw [lineRun_succ]
    generalize lineRun l k t = u at ih ⊢
    have hmove : (lineStep l u).s.planes = (visit u.x u.y u.s).planes ∧ (lineStep l u).s.par = (visit u.x u.y u.s).par := by
      unfold lineStep lineMove
      simp only
      split <;> exact ⟨rfl, rfl⟩
    have hpar : (visit u.x u.y u.s).par = u.s.par := State.onlyDrew_par (visit_onlyDrew ..)
    refine ⟨by rw [hmove.2, hpar, ih.1], fun q => ?_⟩
    rw [hmove.1, ← ih.1]
    exact planes_wf_visit (by rw [ih.1]; exact ih.2) u.x u.y q

/-! ## The whole line -/

/-- A register's signed halves are coordinates (R88). -/
theorem coordinateOk_hiInt (v : W32) : coordinateOk (hiInt v) := by
  have h1 := BitVec.le_toInt (x := v.extractLsb' 16 16)
  have h2 := BitVec.toInt_lt (x := v.extractLsb' 16 16)
  unfold hiInt coordinateOk
  norm_num at *
  omega

/-- A line ends at its end point. -/
theorem lineSetup_end {x0 y0 x1 y1 : Int} (hM : 0 < (lineSetup x0 y0 x1 y1).major) :
    (lineSetup x0 y0 x1 y1).posX (lineSetup x0 y0 x1 y1).major = x1 ∧
      (lineSetup x0 y0 x1 y1).posY (lineSetup x0 y0 x1 y1).major = y1 := by
  unfold LineSetup.posX LineSetup.posY
  rw [LineSetup.minorAt_major hM]
  simp only [lineSetup] at *
  by_cases h : (x1 - x0).natAbs < (y1 - y0).natAbs <;> by_cases hx : x1 - x0 < 0 <;> by_cases hy : y1 - y0 < 0 <;>
    simp only [h, hx, hy, Sign.toInt, decide_true, decide_false, if_true, if_false, Bool.false_eq_true] <;> omega

/-- A line with no dominant span starts where it ends. -/
theorem lineSetup_zero {x0 y0 x1 y1 : Int} (h : (lineSetup x0 y0 x1 y1).major = 0) : x1 = x0 ∧ y1 = y0 := by
  simp only [lineSetup] at h
  by_cases hh : (x1 - x0).natAbs < (y1 - y0).natAbs <;> simp [hh] at h <;> omega

/-- A visit in the middle of a line, in closed form. -/
theorem visit_line {s t : State} {l : LineSetup} {k : Nat} (x y : Int)
    (h : t = { s with planes := t.planes, ce := lineCe l k s }) :
    visit x y t = { s with
      planes := (visit x y t).planes,
      ce := { lineCe l (k + 1) s with
        bresErr := BitVec.ofInt 32 (l.errAt k), bresCount := BitVec.ofNat 32 (l.major - k) } } := by
  have hce : t.ce = lineCe l k s := by rw [h]
  have hv := visit_onlyDrew x y t
  have hc : (visit x y t).ce = { lineCe l (k + 1) s with
      bresErr := BitVec.ofInt 32 (l.errAt k), bresCount := BitVec.ofNat 32 (l.major - k) } := by
    rw [visit_ce, lineCe_colorsrc hce]
    unfold lineCe
    rw [ce_advancedBy_succ]
    by_cases hq : s.colorsrc = 1
    · simp only [hq, if_true, shadeAdvance, hce]; rfl
    · simp only [hq, if_false, hce]; rfl
  unfold State.onlyDrew at hv
  rw [← hc]
  generalize visit x y t = u at hv ⊢
  rw [hv, h]

/-- The registers a line leaves (R212, R215, R218, R220, R221): everything but the planes in closed form. -/
theorem bresenhamLine_eq (x0 y0 x1 y1 : Int) (s : State) (h0 : coordinateOk x0) (h1 : coordinateOk y0)
    (h2 : coordinateOk x1) (h3 : coordinateOk y1) :
    bresenhamLine x0 y0 x1 y1 s =
      (let l := lineSetup x0 y0 x1 y1
       { s with
         planes := (bresenhamLine x0 y0 x1 y1 s).planes,
         ce := { (s.advancedBy (l.visits s.endpt)).ce with
           bresOctant := l.octant, bresInc1 := BitVec.ofInt 32 (2 * l.minor),
           bresInc2 := BitVec.ofInt 32 (2 * l.minor - 2 * l.major), bresErr := BitVec.ofInt 32 (2 * l.minor - l.major),
           bresCount := 0, curxy := packXY x1 y1 } }) := by
  obtain ⟨hm, hs⟩ := lineSetup_spans h0 h1 h2 h3
  unfold bresenhamLine
  generalize lineSetup x0 y0 x1 y1 = l at hm hs ⊢
  simp only
  by_cases hM : l.major = 0
  · have hmin : l.minor = 0 := by omega
    simp only [hM, if_true, LineSetup.visits, lineRun, lineStart, loadBres, State.advancedBy_zero]
    rfl
  · have hpos : 0 < l.major := by omega
    obtain ⟨_, _, hst⟩ := lineRun_spec s hm hpos hs (le_refl l.major)
    simp only [hM, if_false, LineSetup.visits]
    generalize lineRun l l.major (lineStart l s) = t at hst ⊢
    have herr : l.errAt l.major = 2 * l.minor - l.major := by
      unfold LineSetup.errAt
      rw [LineSetup.minorAt_major hpos]
      ring
    have hend : t.s.endpt = s.endpt := by
      have ha := State.advancedBy_onlyDrew s l.major
      unfold State.onlyDrew at ha
      rw [hst]
      unfold State.endpt lineCe
      rw [ha]
    rw [hend]
    cases s.endpt
    · simp only [Bool.false_eq_true, if_false]
      rw [hst]
      simp only [lineCe, herr, Nat.sub_self]
      rfl
    · simp only [if_true]
      rw [visit_line t.x t.y hst]
      simp only [lineCe, herr, Nat.sub_self]
      rfl

/-- The planes a line leaves (R215, R216): the k-th position is stored to with the source value after k advances, every cell
that is no position of the line keeps its value. -/
theorem planeRead_bresenhamLine (x0 y0 x1 y1 : Int) (s : State) (h0 : coordinateOk x0) (h1 : coordinateOk y0)
    (h2 : coordinateOk x1) (h3 : coordinateOk y1) :
    let l := lineSetup x0 y0 x1 y1
    let n := l.visits s.endpt
    (∀ k < n, ∀ p, planeRead (bresenhamLine x0 y0 x1 y1 s) p (l.posX k) (l.posY k) =
      if positionPass s (l.posX k) (l.posY k) = true ∧ s.planeEnabled p = true
      then storeValue (s.advancedBy k) (planeRead s p (l.posX k) (l.posY k)) (fillSource (s.advancedBy k))
      else planeRead s p (l.posX k) (l.posY k)) ∧
    ∀ p u w, (∀ k < n, ¬ (u = l.posX k ∧ w = l.posY k)) → planeRead (bresenhamLine x0 y0 x1 y1 s) p u w = planeRead s p u w := by
  intro l n
  obtain ⟨hm, hs⟩ := lineSetup_spans h0 h1 h2 h3
  change l.minor ≤ l.major at hm
  change l.major ≤ 65535 at hs
  have hset : ∀ (t : State) v p u w, planeRead (t.setReg .curxy v) p u w = planeRead t p u w := by intros; rfl
  have hline : bresenhamLine x0 y0 x1 y1 s =
      (if l.major = 0 then (lineRun l l.major (lineStart l s)).s
       else if (lineRun l l.major (lineStart l s)).s.endpt then
         visit (lineRun l l.major (lineStart l s)).x (lineRun l l.major (lineStart l s)).y (lineRun l l.major (lineStart l s)).s
       else (lineRun l l.major (lineStart l s)).s).setReg .curxy (packXY x1 y1) := rfl
  rw [hline]
  simp only [hset]
  by_cases hM : l.major = 0
  · have hn : n = 0 := by simp [n, LineSetup.visits, hM]
    simp only [hM, if_true, hn]
    exact ⟨fun k hk => absurd hk (Nat.not_lt_zero k), fun p u w _ => rfl⟩
  · have hpos : 0 < l.major := by omega
    simp only [hM, if_false]
    obtain ⟨_, _, hlast⟩ := lineRun_spec s hm hpos hs (le_refl l.major)
    have hend : (lineRun l l.major (lineStart l s)).s.endpt = s.endpt := by
      have ha := State.advancedBy_onlyDrew s l.major
      unfold State.onlyDrew at ha
      rw [hlast]
      unfold State.endpt lineCe
      rw [ha]
    have hn : n = if s.endpt then l.major + 1 else l.major := by simp only [n, LineSetup.visits, hM, if_false]
    rw [hend]
    generalize hF : (if s.endpt = true then
      visit (lineRun l l.major (lineStart l s)).x (lineRun l l.major (lineStart l s)).y (lineRun l l.major (lineStart l s)).s
      else (lineRun l l.major (lineStart l s)).s) = F
    let R : Nat → PlaneId → Int → Int → W32 := fun k p u w =>
      if k ≤ l.major then planeRead (lineRun l k (lineStart l s)).s p u w else
        planeRead (visit (lineRun l l.major (lineStart l s)).x (lineRun l l.major (lineStart l s)).y
          (lineRun l l.major (lineStart l s)).s) p u w
    have hRn : ∀ p u w, planeRead F p u w = R n p u w := by
      intro p u w
      cases he : s.endpt <;> simp [R, ← hF, hn, he]
    have hstep : ∀ k < n, ∀ p u w, R (k + 1) p u w =
        if (positionPass s (l.posX k) (l.posY k) = true ∧ s.planeEnabled p = true) ∧ u = l.posX k ∧ w = l.posY k
        then storeValue (s.advancedBy k) (R k p u w) (fillSource (s.advancedBy k)) else R k p u w := by
      intro k hk p u w
      have hkM : k ≤ l.major := by rw [hn] at hk; split at hk <;> omega
      simp only [R, if_pos hkM]
      refine Eq.trans ?_ (planeRead_lineRun_succ s hm hpos hs hkM p u w)
      by_cases h2 : k + 1 ≤ l.major
      · rw [if_pos h2, lineRun_succ, lineStep, planeRead_lineMove]
      · have : k = l.major := by omega
        subst this
        rw [if_neg h2]
    obtain ⟨A, B⟩ := stores_at_distinct (R := R) (x := l.posX) (y := l.posY) (n := n)
      (c := fun k p => positionPass s (l.posX k) (l.posY k) = true ∧ s.planeEnabled p = true)
      (st := fun k p o => storeValue (s.advancedBy k) o (fillSource (s.advancedBy k))) hstep
      (fun j k h1 _ => LineSetup.pos_distinct l h1)
    exact ⟨fun k hk p => (hRn ..).trans (A k hk p), fun p u w h => (hRn ..).trans (B p u w h)⟩

/-- A line keeps the canonical form of every plane. -/
theorem planes_wf_bresenhamLine {s : State} (h : ∀ q, (s.planes.get q).wf (s.par.fbW * s.par.fbH) = true) (x0 y0 x1 y1 : Int)
    (q : PlaneId) : ((bresenhamLine x0 y0 x1 y1 s).planes.get q).wf (s.par.fbW * s.par.fbH) = true := by
  have hset : ∀ (t : State) v, (t.setReg .curxy v).planes = t.planes := by intros; rfl
  unfold bresenhamLine
  generalize lineSetup x0 y0 x1 y1 = l
  obtain ⟨hp, hw⟩ := planes_wf_lineRun (l := l) (t := lineStart l s) h l.major
  have hp' : (lineRun l l.major (lineStart l s)).s.par = s.par := hp
  simp only [hset]
  split
  · exact hw q
  · split
    · have := planes_wf_visit (s := (lineRun l l.major (lineStart l s)).s) (by rw [hp']; exact hw)
        (lineRun l l.major (lineStart l s)).x (lineRun l l.major (lineStart l s)).y q
      rwa [hp'] at this
    · exact hw q

end Sys2Proof.Machine
end

