-- ==== Sys2Proof/Laws/Engine.lean ====
section
/-! SUPPORT. What the block iteration, the block commands and the host transfer do (41_command_engine.md R159 to R173). -/

namespace Sys2Proof.Machine

/-! ## The block iteration, position by position -/

/-- `f 0`, then `f 1`, and so on, `n` of them. -/
def inOrder (f : Nat → State → State) (n : Nat) (s : State) : State :=
  match n with
  | 0 => s
  | k + 1 => f k (inOrder f k s)

theorem inOrder_shift (f : Nat → State → State) (n : Nat) (s : State) :
    inOrder f (n + 1) s = inOrder (fun i => f (i + 1)) n (f 0 s) := by
  induction n with
  | zero => rfl
  | succ k ih => rw [inOrder, ih]; rfl

theorem inOrder_add (f : Nat → State → State) (m n : Nat) (s : State) :
    inOrder f (m + n) s = inOrder (fun i => f (m + i)) n (inOrder f m s) := by
  induction n with
  | zero => rfl
  | succ k ih => rw [← Nat.add_assoc, inOrder, ih]; rfl

theorem inOrder_congr {f g : Nat → State → State} {n : Nat} (h : ∀ k < n, f k = g k) (s : State) : inOrder f n s = inOrder g n s := by
  induction n with
  | zero => rfl
  | succ k ih => rw [inOrder, inOrder, ih (fun j hj => h j (by omega)), h k (by omega)]

theorem rowIter_eq (body : Int → Int → State → State) (d : Int) (n : Nat) (x y : Int) (s : State) :
    rowIter body d n x y s = inOrder (fun i => body (x + d * i) y) (n + 1) s := by
  induction n generalizing x s with
  | zero => simp [rowIter, inOrder]
  | succ k ih =>
    rw [rowIter, ih, inOrder_shift _ (k + 1)]
    simp only [Nat.cast_add, Nat.cast_one, Nat.cast_zero, mul_zero, add_zero]
    congr 1
    funext i
    congr 1
    ring

theorem rectIter_eq (body : Int → Int → State → State) (dx : Int) (w : Nat) (x d : Int) (n : Nat) (y : Int) (s : State) :
    rectIter body dx w x d n y s =
      inOrder (fun k => body (x + dx * (k % (w + 1) : Nat)) (y + d * (k / (w + 1) : Nat))) ((w + 1) * (n + 1)) s := by
  induction n generalizing y s with
  | zero =>
    rw [rectIter, rowIter_eq, Nat.zero_add, Nat.mul_one]
    refine inOrder_congr (fun k hk => ?_) s
    rw [Nat.mod_eq_of_lt hk, Nat.div_eq_of_lt hk]
    simp
  | succ m ih =>
    rw [rectIter, rowIter_eq, ih, show (w + 1) * (m + 1 + 1) = (w + 1) + (w + 1) * (m + 1) by ring, inOrder_add _ (w + 1)]
    have hfirst : inOrder (fun k => body (x + dx * (k % (w + 1) : Nat)) (y + d * (k / (w + 1) : Nat))) (w + 1) s =
        inOrder (fun i => body (x + dx * i) y) (w + 1) s := by
      refine inOrder_congr (fun k hk => ?_) s
      rw [Nat.mod_eq_of_lt hk, Nat.div_eq_of_lt hk]
      simp
    rw [hfirst]
    refine inOrder_congr (fun k _ => ?_) _
    rw [Nat.add_mod_left, Nat.add_div_left _ (Nat.succ_pos w)]
    congr 1
    push_cast
    ring

theorem toward_eq (a b : Int) (i : Nat) : toward a b i = a + (signToward a b).toInt * i := by
  unfold toward signToward
  split
  · simp [Sign.toInt]
  · simp [Sign.toInt]; ring

/-- The block iteration visits the position in column i of row j as its (j w + i)-th, and no other (R159). -/
theorem blockIter_eq (body : Int → Int → State → State) (x0 y0 x1 y1 : Int) (s : State) :
    blockIter body x0 y0 x1 y1 s =
      inOrder (fun k => body (toward x0 x1 (k % ((x1 - x0).natAbs + 1))) (toward y0 y1 (k / ((x1 - x0).natAbs + 1))))
        (((x1 - x0).natAbs + 1) * ((y1 - y0).natAbs + 1)) s := by
  unfold blockIter
  rw [rectIter_eq]
  refine inOrder_congr (fun k _ => ?_) s
  rw [toward_eq, toward_eq]

theorem toward_inj {a b : Int} {i j : Nat} (h : toward a b i = toward a b j) : i = j := by
  unfold toward at h
  split at h <;> omega

/-- The positions of a block are all different. -/
theorem block_distinct (x0 x1 y0 y1 : Int) (w : Nat) {j k : Nat} (h : j < k) :
    ¬ (toward x0 x1 (j % w) = toward x0 x1 (k % w) ∧ toward y0 y1 (j / w) = toward y0 y1 (k / w)) := by
  rintro ⟨hx, hy⟩
  have h1 := toward_inj hx
  have h2 := toward_inj hy
  have h3 := Nat.div_add_mod j w
  have h4 := Nat.div_add_mod k w
  rw [h1, h2] at h3
  omega

/-- A coordinate lies between the corners exactly where the walk reaches it. -/
theorem within_iff_toward (a b v : Int) : within a b v ↔ ∃ i, i < (b - a).natAbs + 1 ∧ v = toward a b i := by
  unfold within toward
  constructor
  · intro h
    refine ⟨(v - a).natAbs, by omega, ?_⟩
    split <;> omega
  · rintro ⟨i, hi, hv⟩
    split at hv <;> omega

/-- A position lies in the block's rectangle exactly where the iteration visits it. -/
theorem within_iff_visited (x0 y0 x1 y1 u w : Int) :
    within x0 x1 u ∧ within y0 y1 w ↔
      ∃ k, k < ((x1 - x0).natAbs + 1) * ((y1 - y0).natAbs + 1) ∧ u = toward x0 x1 (k % ((x1 - x0).natAbs + 1)) ∧
        w = toward y0 y1 (k / ((x1 - x0).natAbs + 1)) := by
  rw [within_iff_toward, within_iff_toward]
  constructor
  · rintro ⟨⟨i, hi, rfl⟩, j, hj, rfl⟩
    refine ⟨((x1 - x0).natAbs + 1) * j + i, ?_, ?_, ?_⟩
    · calc _ < ((x1 - x0).natAbs + 1) * j + ((x1 - x0).natAbs + 1) := by omega
        _ = ((x1 - x0).natAbs + 1) * (j + 1) := by ring
        _ ≤ _ := Nat.mul_le_mul_left _ (by omega)
    · rw [Nat.mul_add_mod, Nat.mod_eq_of_lt hi]
    · rw [Nat.mul_add_div (Nat.succ_pos _), Nat.div_eq_of_lt hi, Nat.add_zero]
  · rintro ⟨k, hk, rfl, rfl⟩
    refine ⟨⟨_, Nat.mod_lt _ (Nat.succ_pos _), rfl⟩, _, ?_, rfl⟩
    exact Nat.div_lt_of_lt_mul hk

/-! ## Many visits -/

/-- The registers after `n` visits: the accumulators advanced n times, nothing else (R163, R218). -/
theorem inOrder_visit_eq (x y : Nat → Int) (n : Nat) (s : State) :
    inOrder (fun k => visit (x k) (y k)) n s =
      { s with planes := (inOrder (fun k => visit (x k) (y k)) n s).planes, ce := (s.advancedBy n).ce } := by
  induction n with
  | zero => simp [inOrder, State.advancedBy_zero]
  | succ k ih =>
    simp only [inOrder]
    generalize inOrder (fun k => visit (x k) (y k)) k s = t at ih ⊢
    have hv := visit_onlyDrew (x k) (y k) t
    have hc := visit_ce (x k) (y k) t
    have hce : t.ce = (s.advancedBy k).ce := by rw [ih]
    have hcs : t.colorsrc = s.colorsrc := by unfold State.colorsrc; rw [hce]; exact State.advancedBy_colorsrc s k
    rw [hcs, hce, shadeAdvance_ce_congr hce, ← ce_advancedBy_succ] at hc
    rw [← hc]
    unfold State.onlyDrew at hv
    generalize visit (x k) (y k) t = u at hv ⊢
    rw [hv, ih]

/-- What the tests, the planes and the stored value of a position are after `k` visits. -/
theorem visits_operands {s t : State} {k : Nat} (h : t = { s with planes := t.planes, ce := (s.advancedBy k).ce }) :
    (∀ x y, positionPass t x y = positionPass s x y) ∧ (∀ p, t.planeEnabled p = s.planeEnabled p) ∧
      (∀ old src, storeValue t old src = storeValue (s.advancedBy k) old src) ∧ fillSource t = fillSource (s.advancedBy k) := by
  have hc : t.ce = (s.advancedBy k).ce := by rw [h]
  have ha := State.advancedBy_onlyDrew s k
  have hh : t.hostdata = (s.advancedBy k).hostdata := by rw [State.advancedBy_hostdata, h]
  refine ⟨fun x y => ?_, fun p => ?_, fun old src => storeValue_congr hc old src, fillSource_congr hc hh⟩
  · rw [positionPass_congr (s := s.advancedBy k) (by rw [State.onlyDrew_par ha, h]) hc, State.onlyDrew_positionPass ha]
  · rw [planeEnabled_congr hc, State.onlyDrew_planeEnabled ha]

/-- The planes after `n` visits of positions that are all different. -/
theorem planeRead_inOrder_visit (x y : Nat → Int) (n : Nat) (s : State)
    (inj : ∀ j k, j < k → k < n → ¬ (x j = x k ∧ y j = y k)) :
    (∀ k < n, ∀ p, planeRead (inOrder (fun k => visit (x k) (y k)) n s) p (x k) (y k) =
      if positionPass s (x k) (y k) = true ∧ s.planeEnabled p = true
      then storeValue (s.advancedBy k) (planeRead s p (x k) (y k)) (fillSource (s.advancedBy k))
      else planeRead s p (x k) (y k)) ∧
    ∀ p u w, (∀ k < n, ¬ (u = x k ∧ w = y k)) →
      planeRead (inOrder (fun k => visit (x k) (y k)) n s) p u w = planeRead s p u w := by
  refine stores_at_distinct (R := fun k p u w => planeRead (inOrder (fun k => visit (x k) (y k)) k s) p u w)
    (c := fun k p => positionPass s (x k) (y k) = true ∧ s.planeEnabled p = true)
    (st := fun k _ o => storeValue (s.advancedBy k) o (fillSource (s.advancedBy k))) (fun k _ p u w => ?_) inj
  obtain ⟨h1, h2, h3, h4⟩ := visits_operands (inOrder_visit_eq x y k s)
  simp only [inOrder]
  rw [planeRead_visit, h1, h2, h3, h4]
  simp only [and_assoc]

/-- Whatever every body keeps, the iteration keeps. -/
theorem inOrder_invariant {P : State → Prop} {f : Nat → State → State} (hf : ∀ k s, P s → P (f k s)) {s : State} (h : P s)
    (n : Nat) : P (inOrder f n s) := by
  induction n with
  | zero => exact h
  | succ k ih => exact hf k _ ih

/-- Any number of visits changes nothing but planes and accumulators (R166). -/
theorem inOrder_visit_onlyDrew (x y : Nat → Int) (n : Nat) (s : State) :
    s.onlyDrew (inOrder (fun k => visit (x k) (y k)) n s) :=
  inOrder_invariant (P := s.onlyDrew) (fun _ _ h => State.onlyDrew_trans h (visit_onlyDrew ..)) (State.onlyDrew_refl s) n

/-! ## BLOCK copy -/

theorem copyVisit_eq (x y : Int) (s : State) : copyVisit x y s = { s with planes := (copyVisit x y s).planes } := plot_eq ..

/-- The registers after any number of copy visits: no change (R160). -/
theorem inOrder_copyVisit_eq (x y : Nat → Int) (n : Nat) (s : State) :
    inOrder (fun k => copyVisit (x k) (y k)) n s =
      { s with planes := (inOrder (fun k => copyVisit (x k) (y k)) n s).planes } := by
  induction n with
  | zero => rfl
  | succ k ih =>
    simp only [inOrder]
    rw [copyVisit_eq, ih]

theorem planeRead_copyVisit (x y : Int) (s : State) (q : PlaneId) (u w : Int) :
    planeRead (copyVisit x y s) q u w =
      if positionPass s (x + s.moveX) (y + s.moveY) = true ∧ s.planeEnabled q = true ∧ u = x + s.moveX ∧ w = y + s.moveY
      then storeValue s (planeRead s q u w) (planeRead s q x y &&& ones s.depth.db) else planeRead s q u w := planeRead_plot ..

/-- The planes after `n` copy visits of source positions that are all different: a cell that is no destination keeps its value,
and where no source is a destination each destination takes its source's cell. -/
theorem planeRead_inOrder_copyVisit (x y : Nat → Int) (n : Nat) (s : State) :
    (∀ p u w, (∀ k < n, ¬ (u = x k + s.moveX ∧ w = y k + s.moveY)) →
      planeRead (inOrder (fun k => copyVisit (x k) (y k)) n s) p u w = planeRead s p u w) ∧
    ((∀ j k, j < k → k < n → ¬ (x j = x k ∧ y j = y k)) →
      (∀ j < n, ∀ k < n, ¬ (x j = x k + s.moveX ∧ y j = y k + s.moveY)) → ∀ k < n, ∀ p,
      planeRead (inOrder (fun k => copyVisit (x k) (y k)) n s) p (x k + s.moveX) (y k + s.moveY) =
        if positionPass s (x k + s.moveX) (y k + s.moveY) = true ∧ s.planeEnabled p = true
        then storeValue s (planeRead s p (x k + s.moveX) (y k + s.moveY)) (planeRead s p (x k) (y k) &&& ones s.depth.db)
        else planeRead s p (x k + s.moveX) (y k + s.moveY)) := by
  have one : ∀ k p u w, planeRead (inOrder (fun k => copyVisit (x k) (y k)) (k + 1) s) p u w =
      if (positionPass s (x k + s.moveX) (y k + s.moveY) = true ∧ s.planeEnabled p = true) ∧
        u = x k + s.moveX ∧ w = y k + s.moveY
      then storeValue s (planeRead (inOrder (fun k => copyVisit (x k) (y k)) k s) p u w)
        (planeRead (inOrder (fun k => copyVisit (x k) (y k)) k s) p (x k) (y k) &&& ones s.depth.db)
      else planeRead (inOrder (fun k => copyVisit (x k) (y k)) k s) p u w := by
    intro k p u w
    have h := inOrder_copyVisit_eq x y k s
    simp only [inOrder]
    rw [planeRead_copyVisit]
    generalize inOrder (fun k => copyVisit (x k) (y k)) k s = t at h ⊢
    have hc : t.ce = s.ce := by rw [h]
    have hp : t.par = s.par := by rw [h]
    have hm : t.moveX = s.moveX ∧ t.moveY = s.moveY ∧ t.depth = s.depth := by rw [h]; exact ⟨rfl, rfl, rfl⟩
    rw [hm.1, hm.2.1, hm.2.2, positionPass_congr hp hc, planeEnabled_congr hc, storeValue_congr hc]
    simp only [and_assoc]
  have out : ∀ m ≤ n, ∀ p u w, (∀ k < m, ¬ (u = x k + s.moveX ∧ w = y k + s.moveY)) →
      planeRead (inOrder (fun k => copyVisit (x k) (y k)) m s) p u w = planeRead s p u w := by
    intro m hm p u w hu
    induction m with
    | zero => rfl
    | succ k ih =>
      rw [one, if_neg (fun q => hu k (by omega) q.2)]
      exact ih (by omega) fun j hj => hu j (by omega)
  refine ⟨out n le_rfl, fun inj sep => ?_⟩
  refine (stores_at_distinct (R := fun k p u w => planeRead (inOrder (fun k => copyVisit (x k) (y k)) k s) p u w)
    (x := fun k => x k + s.moveX) (y := fun k => y k + s.moveY)
    (c := fun k p => positionPass s (x k + s.moveX) (y k + s.moveY) = true ∧ s.planeEnabled p = true)
    (st := fun k p o => storeValue s o (planeRead s p (x k) (y k) &&& ones s.depth.db)) (fun k hk p u w => ?_)
    (fun j k h1 h2 q => inj j k h1 h2 ⟨by have := q.1; omega, by have := q.2; omega⟩)).1
  rw [one, out k (by omega) p (x k) (y k) fun j hj => sep k hk j (by omega)]

/-! ## The host transfer -/

/-- The transfer cursor after `n` advances, from the first corner: the n-th position of the rectangle, still active while a
pixel is left to move (R168, R170). -/
theorem Xfer.advance_iter {f : Xfer} (ha : f.active = true) (hx : f.hx = f.x0) (hy : f.hy = f.y0)
    (hsx : f.sx = signToward f.x0 f.x1) (hsy : f.sy = signToward f.y0 f.y1) (n : Nat)
    (hn : n < ((f.x1 - f.x0).natAbs + 1) * ((f.y1 - f.y0).natAbs + 1)) :
    Xfer.advance^[n] f =
      { f with hx := toward f.x0 f.x1 (n % ((f.x1 - f.x0).natAbs + 1)), hy := toward f.y0 f.y1 (n / ((f.x1 - f.x0).natAbs + 1)) } := by
  induction n with
  | zero =>
    simp only [Function.iterate_zero, id_eq, Nat.zero_mod, Nat.zero_div, toward_eq, Nat.cast_zero, mul_zero, add_zero]
    obtain ⟨_, _, _, _, _, _, _, _, _, _⟩ := f
    simp_all
  | succ k ih =>
    rw [Function.iterate_succ_apply', ih (by omega)]
    have hW : 0 < (f.x1 - f.x0).natAbs + 1 := Nat.succ_pos _
    generalize hw : (f.x1 - f.x0).natAbs + 1 = w at *
    have hmod := Nat.mod_lt k hW
    have hdm := Nat.div_add_mod k w
    have hdiv : k / w < (f.y1 - f.y0).natAbs + 1 := Nat.div_lt_of_lt_mul (by omega)
    have hlast : toward f.x0 f.x1 (k % w) = f.x1 ↔ k % w + 1 = w := by
      unfold toward
      split <;> omega
    unfold Xfer.advance
    by_cases hr : k % w + 1 = w
    · have hk1 : (k + 1) % w = 0 ∧ (k + 1) / w = k / w + 1 := by
        have : k + 1 = w * (k / w + 1) := by rw [Nat.mul_add]; omega
        rw [this]
        exact ⟨Nat.mul_mod_right _ _, Nat.mul_div_cancel_left _ hW⟩
      have hyne : toward f.y0 f.y1 (k / w) ≠ f.y1 := by
        intro h
        have hq : k / w + 1 = (f.y1 - f.y0).natAbs + 1 := by
          unfold toward at h
          split at h <;> omega
        have : k + 1 = w * (k / w + 1) := by rw [Nat.mul_add]; omega
        rw [hq] at this
        omega
      have h0 := hlast.mpr hr
      simp only [h0, ne_eq, not_true_eq_false, if_false, hyne, not_false_eq_true, if_true, hk1.1, hk1.2]
      congr 1
      · simp [toward_eq]
      · rw [toward_eq, toward_eq, hsy]; push_cast; ring
    · have hk1 : (k + 1) % w = k % w + 1 ∧ (k + 1) / w = k / w := by
        have e : k + 1 = w * (k / w) + (k % w + 1) := by omega
        rw [e]
        refine ⟨?_, ?_⟩
        · rw [Nat.mul_add_mod, Nat.mod_eq_of_lt (show k % w + 1 < w by omega)]
        · rw [Nat.mul_add_div hW, Nat.div_eq_of_lt (show k % w + 1 < w by omega), Nat.add_zero]
      have h0 := mt hlast.mp hr
      simp only [ne_eq, h0, not_false_eq_true, if_true, hk1.1, hk1.2]
      congr 1
      rw [toward_eq, toward_eq, hsx]; push_cast; ring

/-- A transfer cursor inside its rectangle stays inside it. -/
theorem Xfer.cursorInside_advance {f : Xfer} (h : f.cursorInside) : f.advance.cursorInside := by
  obtain ⟨a, b, c, d, e, g, hx, hy⟩ := h
  unfold Xfer.cursorInside at *
  unfold Xfer.advance
  have hx0 : within f.x0 f.x1 f.x0 := by unfold within; omega
  split
  · refine ⟨a, b, c, d, e, g, ?_, hy⟩
    simp only [e, signToward]
    unfold within at *
    split <;> simp only [Sign.toInt] <;> omega
  · split
    · refine ⟨a, b, c, d, e, g, hx0, ?_⟩
      simp only [g, signToward]
      unfold within at *
      split <;> simp only [Sign.toInt] <;> omega
    · exact ⟨a, b, c, d, e, g, hx0, hy⟩

/-! ## Moving pixels of a transfer -/

/-- One word of a host-to-frame transfer, while one is active (R169): one pixel moves in. -/
theorem consumeWord_movesIn {s : State} (w : W32) (h : s.xf.active = true) : s.pixelMovedIn (consumeWord w s) w := by
  have e : consumeWord w s = xfAdvance (plot s.xf.hx s.xf.hy (fun _ => hostSource s (swapHost s w)) s) := by
    rw [consumeWord, if_pos h]
  rw [e]
  generalize hsrc : swapHost s w = v
  have hv : (if s.byteSwap then swap32 w else w) = v := by rw [← hsrc]; rfl
  unfold State.pixelMovedIn State.storedAt
  rw [hv]
  constructor
  · rw [plot_eq]; rfl
  · intro p u z
    have hx : ∀ t : State, planeRead (xfAdvance t) p u z = planeRead t p u z := fun _ => rfl
    rw [hx, planeRead_plot]
    refine if_congr ?_ rfl rfl
    tauto

/-- A word that arrives when no transfer is active is ignored (R169). -/
theorem consumeWord_ended {s : State} (w : W32) (h : s.xf.active = false) : consumeWord w s = s := by
  rw [consumeWord, if_neg (by simp [h])]

/-- One word of a frame-to-host transfer, while one is active (R172): one pixel moves out. -/
theorem produceWord_movesOut {s : State} (h : s.xf.active = true) : produceWord s = (s.pixelMovedOut, s.pixelOut) := by
  simp only [produceWord, h, if_true]
  congr 1
  unfold State.pixelOut transferCell swapHost planeOrder
  cases h0 : s.planeEnabled .primary <;> cases h1 : s.planeEnabled .overlay <;> cases h2 : s.planeEnabled .popup <;>
    cases h3 : s.planeEnabled .cid <;> simp [h0, h1, h2, h3]

/-- A word asked for when no transfer is active is 0 (R172). -/
theorem produceWord_ended {s : State} (h : s.xf.active = false) : produceWord s = (s, 0) := by
  simp [produceWord, h]

/-! ## The packed views -/

/-- What a write of XYSTARTI does (R121). -/
theorem writeXystarti_eq (v m : W32) (s : State) :
    writeXystarti v m s = { s.transferEnded with ce := { s.ce with
      xstart := if m.extractLsb' 16 16 ≠ 0 then (merge s.xystarti v m).extractLsb' 16 16 ++ 0#16 else s.ce.xstart,
      ystart := if m.extractLsb' 0 16 ≠ 0 then (merge s.xystarti v m).extractLsb' 0 16 ++ 0#16 else s.ce.ystart } } := by
  unfold writeXystarti writeView
  generalize merge s.xystarti v m = n
  generalize m.extractLsb' 16 16 = a
  generalize m.extractLsb' 0 16 = b
  simp only
  split <;> split <;> rfl

/-- What a write of XYENDI does (R121). -/
theorem writeXyendi_eq (v m : W32) (s : State) :
    writeXyendi v m s = { s.transferEnded with ce := { s.ce with
      xend := if m.extractLsb' 16 16 ≠ 0 then (merge s.xyendi v m).extractLsb' 16 16 ++ 0#16 else s.ce.xend,
      yend := if m.extractLsb' 0 16 ≠ 0 then (merge s.xyendi v m).extractLsb' 0 16 ++ 0#16 else s.ce.yend } } := by
  unfold writeXyendi writeView
  generalize merge s.xyendi v m = n
  generalize m.extractLsb' 16 16 = a
  generalize m.extractLsb' 0 16 = b
  simp only
  split <;> split <;> rfl

end Sys2Proof.Machine
end

