-- ==== Sys2Proof/Laws/Meanings.lean ====
section
/-! SUPPORT. The meanings by group: every host read, host write, write at a GO alias, command and DCB transaction is one shared
operation, whichever row it is. A proof about many rows cites these instead of unfolding the meanings one by one. -/

namespace Sys2Proof.Machine

/-- `write_reg` of 40_register_access.md R113: what a write of each register does, under a mask that is not 0. -/
def hostWrite (r : HostReg) (v m : W64) (s : State) : State :=
  match r with
  | .hostdata => writeHostdata v m s
  | .status => writeStatus (v.setWidth 32) (m.setWidth 32) s
  | .xystarti => writeXystarti (v.setWidth 32) (m.setWidth 32) s
  | .xyendi => writeXyendi (v.setWidth 32) (m.setWidth 32) s
  | .ce .drawmode0 => writeDrawmode0 (v.setWidth 32) (m.setWidth 32) s
  | .ce .drawmode1 => writeDrawmode1 (v.setWidth 32) (m.setWidth 32) s
  | .ce .dcbmode => writeDcbmode (v.setWidth 32) (m.setWidth 32) s
  | .ce .dcbdata0 => writeDcbdata0 (v.setWidth 32) (m.setWidth 32) s
  | .ce .bresErr => s
  | .ce .bresInc1 => s
  | .ce .bresInc2 => s
  | .ce .bresCount => s
  | .ce .bresOctant => s
  | .ce .curxy => s
  | .ce .xstart => writeCoord .xstart (v.setWidth 32) (m.setWidth 32) s
  | .ce .ystart => writeCoord .ystart (v.setWidth 32) (m.setWidth 32) s
  | .ce .xend => writeCoord .xend (v.setWidth 32) (m.setWidth 32) s
  | .ce .yend => writeCoord .yend (v.setWidth 32) (m.setWidth 32) s
  | .ce q => writePlain q (v.setWidth 32) (m.setWidth 32) s

/-- `read_reg` of 40_register_access.md R112. -/
def hostRead (r : HostReg) (s : State) : State :=
  match r with
  | .hostdata => readHostdata s
  | .status => reply32 (statusWord s) s
  | .xystarti => reply32 s.xystarti s
  | .xyendi => reply32 s.xyendi s
  | .ce .dcbdata0 => readDcbdata0 s
  | .ce q => readReg q s

/-- The command of DRAWMODE0 bits 4:0 (30_encoding.md R90). -/
def commandOf (k : BitVec 5) (s : State) : State :=
  match (k.extractLsb' 0 3).toNat with
  | 0 => cmdNop s
  | 1 => cmdPixel s
  | 2 => cmdLine s
  | 3 => if k.getLsbD 3 then cmdBlockCopy s else cmdBlockFill s
  | 4 => if k.getLsbD 4 then cmdHost .frameToHost s else cmdHost .hostToFrame s
  | _ => cmdNop s

theorem exec_readInstr (r : HostReg) (s : State) : exec (readInstr r) s = .next (hostRead r s) := by
  cases r with
  | ce q => cases q <;> rfl
  | _ => rfl

theorem exec_readAliasInstr (r : HostReg) (s : State) : exec (readAliasInstr r) s = .next (hostRead r s) := by
  cases r with
  | ce q => cases q <;> rfl
  | _ => rfl

theorem whenMasked_narrow {r : HostReg} (hr : isWide r = false) (m : W64) (f : State → State) (s : State) :
    whenMasked (m.setWidth 32 : W32) f s = if maskLive r m = true then f s else s := by
  simp only [whenMasked, maskLive, hr]
  split <;> simp_all

theorem exec_writeInstr (r : HostReg) (v m : W64) (s : State) :
    exec (writeInstr r v m) s = .next (if maskLive r m = true then hostWrite r v m s else s) := by
  cases r with
  | ce q => rw [← whenMasked_narrow rfl m (hostWrite (.ce q) v m) s]; cases q <;> rfl
  | xystarti => rw [← whenMasked_narrow rfl m (hostWrite .xystarti v m) s]; rfl
  | xyendi => rw [← whenMasked_narrow rfl m (hostWrite .xyendi v m) s]; rfl
  | status => rw [← whenMasked_narrow rfl m (hostWrite .status v m) s]; rfl
  | hostdata =>
    simp only [maskLive, isWide, if_true, decide_eq_true_eq]
    show Host.Outcome.next (whenMasked m (writeHostdata v m) s) = _
    unfold whenMasked
    split <;> simp_all [hostWrite]

theorem exec_goInstr (r : HostReg) (v m : W64) (s : State) :
    exec (goInstr r v m) s = .next (if maskLive r m = true then go (hostWrite r v m s) else s) := by
  cases r with
  | ce q => rw [← whenMasked_narrow rfl m (fun t => go (hostWrite (.ce q) v m t)) s]; cases q <;> rfl
  | xystarti => rw [← whenMasked_narrow rfl m (fun t => go (hostWrite .xystarti v m t)) s]; rfl
  | xyendi => rw [← whenMasked_narrow rfl m (fun t => go (hostWrite .xyendi v m t)) s]; rfl
  | status => rw [← whenMasked_narrow rfl m (fun t => go (hostWrite .status v m t)) s]; rfl
  | hostdata =>
    simp only [maskLive, isWide, if_true, decide_eq_true_eq]
    show Host.Outcome.next (whenMasked m (fun t => go (writeHostdata v m t)) s) = _
    unfold whenMasked
    split <;> simp_all [hostWrite]

theorem exec_decodeCommand (k : BitVec 5) (s : State) :
    exec (decodeCommand k) s = .next (commandOf k (endTransfer s)) := by
  have h : ∀ k : BitVec 5, ∀ s, exec (decodeCommand k) s = .next (commandOf k (endTransfer s)) := by
    intro k s
    simp only [decodeCommand, commandOf]
    generalize (k.extractLsb' 0 3).toNat = n
    match n with
    | 0 => rfl
    | 1 => rfl
    | 2 => rfl
    | 3 => cases h3 : k.getLsbD 3 <;> rfl
    | 4 => cases h4 : k.getLsbD 4 <;> rfl
    | 5 => rfl
    | 6 => rfl
    | _ + 7 => rfl
  exact h k s

theorem go_eq (s : State) : go s = commandOf s.commandKey (endTransfer s) := by
  have h1 : (s.commandKey.extractLsb' 0 3).toNat = s.cmd := by
    simp [State.commandKey, State.cmd]
  have h2 : s.commandKey.getLsbD 3 = s.copyBit := by simp [State.commandKey, State.copyBit]
  have h3 : s.commandKey.getLsbD 4 = s.dirBit := by simp [State.commandKey, State.dirBit]
  simp only [go, commandOf, h1, h2, h3, goCommand]
  all_goals
    generalize s.cmd = n
    match n with
    | 0 => rfl
    | 1 => rfl
    | 2 => rfl
    | 3 => cases s.copyBit <;> rfl
    | 4 => cases s.dirBit <;> rfl
    | _ + 5 => rfl

/-- A GO is the command DRAWMODE0 selects. -/
theorem exec_decodeCommand_commandKey (s : State) : exec (decodeCommand s.commandKey) s = .next (go s) := by
  rw [exec_decodeCommand, go_eq]

/-! ## DCB transactions -/

/-- A property of every 4-bit value, value by value. -/
theorem bitVec4_cases {P : BitVec 4 → Prop} (h0 : P 0) (h1 : P 1) (h2 : P 2) (h3 : P 3) (h4 : P 4) (h5 : P 5) (h6 : P 6)
    (h7 : P 7) (h8 : P 8) (h9 : P 9) (h10 : P 10) (h11 : P 11) (h12 : P 12) (h13 : P 13) (h14 : P 14) (h15 : P 15)
    (r : BitVec 4) : P r := by
  obtain ⟨n, hn⟩ := r
  match n, hn with
  | 0, _ => exact h0
  | 1, _ => exact h1
  | 2, _ => exact h2
  | 3, _ => exact h3
  | 4, _ => exact h4
  | 5, _ => exact h5
  | 6, _ => exact h6
  | 7, _ => exact h7
  | 8, _ => exact h8
  | 9, _ => exact h9
  | 10, _ => exact h10
  | 11, _ => exact h11
  | 12, _ => exact h12
  | 13, _ => exact h13
  | 14, _ => exact h14
  | 15, _ => exact h15
  | n + 16, h => exact absurd h (by omega)

/-- A DCB write row is the write transaction of its sub-address and register select. -/
theorem exec_dcbWrite (slave r : BitVec 4) (s : State) :
    exec (decodeDcb (1#1 ++ slave ++ r)) s = .next (dcbWriteTo slave r s) := by
  induction slave using bitVec4_cases <;> induction r using bitVec4_cases <;> rfl

/-- A DCB read row is the read transaction of its sub-address and register select. -/
theorem exec_dcbRead (slave r : BitVec 4) (s : State) :
    exec (decodeDcb (0#1 ++ slave ++ r)) s = .next (dcbReadFrom slave r s) := by
  induction slave using bitVec4_cases <;> induction r using bitVec4_cases <;> rfl

end Sys2Proof.Machine
end

