-- ==== Sys2Proof/Laws/Step.lean ====
section
/-! SUPPORT. Everything a step can do, said once: a proof about all steps cites `step_next` and never unfolds the step. -/

namespace Sys2Proof.Machine

/-- What a request can make of the state it is run on. -/
inductive Effect (r : Request) (s : State) : State → Prop where
  /-- A host read, at the register's own offset or at its GO alias. -/
  | read (q : HostReg) : Effect r s (hostRead q s)
  /-- A host write under a mask that is not 0. -/
  | write (q : HostReg) (v m : W64) (h : decode r = .ok (writeInstr q v m)) : Effect r s (hostWrite q v m s)
  /-- A host write at the GO alias under a mask that is not 0. -/
  | writeGo (q : HostReg) (v m : W64) (h : decode r = .ok (goInstr q v m)) : Effect r s (go (hostWrite q v m s))
  /-- A write under the mask 0, or an invalid write. -/
  | nothing : Effect r s s
  | command (k : BitVec 5) : Effect r s (commandOf k (endTransfer s))
  | dcbWrite (slave reg : BitVec 4) : Effect r s (dcbWriteTo slave reg s)
  | dcbRead (slave reg : BitVec 4) : Effect r s (dcbReadFrom slave reg s)
  /-- A query that answers and changes no state but what it gives out. -/
  | answers (e : Output) : Effect r s (s.emit e)
  /-- A query that reads the window. -/
  | decodes (e : Output) : Effect r s ((ensureDecoded s).emit e)
  | beginLine (y : Nat) (h : r = .query (.beginDidLine y)) : Effect r s (beginLine y s)
  | nextEntry : Effect r s (nextDidEntry s)
  | timeout : Effect r s (dcbTimeout s)
  | hardReset (h : r = .hardReset) : Effect r s (hardReset s)
  | softReset (h : r = .softReset) : Effect r s (softReset s)

/-- Every DCB key is the key of its direction, sub-address and register select. -/
theorem dcbKey_eq (k : BitVec 9) :
    k = 1#1 ++ k.extractLsb' 4 4 ++ k.extractLsb' 0 4 ∨ k = 0#1 ++ k.extractLsb' 4 4 ++ k.extractLsb' 0 4 := by
  revert k; decide

/-- Everything a step that answers a next state can do: with nothing waiting the timer steps, else the request at the head of the
schedule has its effect. -/
theorem step_next {s t : State} (h : step s = .next t) :
    (s.inbox = [] ∧ t = dcbTimeout s.idle) ∨ ∃ r rest, s.inbox = r :: rest ∧ Effect r (s.taking rest) t := by
  unfold step at h
  split at h
  · rename_i hi
    exact .inl ⟨hi, by cases h; rfl⟩
  · rename_i r rest hi
    refine .inr ⟨r, rest, hi, ?_⟩
    generalize s.taking rest = u at h
    cases hd : decode r with
    | error e =>
      rw [hd] at h
      cases e with
      | invalidRead w8 => cases w8 <;> (cases h; exact .answers _)
      | invalidWrite => cases h; exact .nothing
      | noSuchClut c => cases h
    | ok i =>
      rw [hd] at h
      cases r with
      | host key v m =>
        have hd' := hd
        simp only [decode, decodeHost] at hd'
        split at hd'
        · split at hd' <;> cases hd'
        · split at hd' <;> cases hd'
          · simp only [exec_readInstr, Host.Outcome.next.injEq] at h
            rw [← h]; exact .read _
          · simp only [exec_readAliasInstr, Host.Outcome.next.injEq] at h
            rw [← h]; exact .read _
          · simp only [exec_writeInstr, Host.Outcome.next.injEq] at h
            rw [← h]
            split
            · exact .write _ _ _ hd
            · exact .nothing
          · simp only [exec_goInstr, Host.Outcome.next.injEq] at h
            rw [← h]
            split
            · exact .writeGo _ _ _ hd
            · exact .nothing
      | command k =>
        cases hd
        simp only [exec_decodeCommand, Host.Outcome.next.injEq] at h
        rw [← h]; exact .command k
      | dcb k =>
        cases hd
        rcases dcbKey_eq k with e | e <;> rw [e] at h
        · simp only [exec_dcbWrite, Host.Outcome.next.injEq] at h
          rw [← h]; exact .dcbWrite _ _
        · simp only [exec_dcbRead, Host.Outcome.next.injEq] at h
          rw [← h]; exact .dcbRead _ _
      | query q =>
        cases q with
        | beginDidLine y => cases hd; cases h; exact .beginLine y rfl
        | paletteBase c =>
          simp only [decode, decodeQuery] at hd
          split at hd
          · rename_i hc
            have : c = 0 ∨ c = 1 := by simp [clutInstanceOk] at hc; omega
            cases hd
            rcases this with rfl | rfl <;> (cases h; exact .answers _)
          · cases hd
        | readoutX0 => cases hd; cases h; exact .decodes _
        | readoutY0 => cases hd; cases h; exact .decodes _
        | readoutX1 => cases hd; cases h; exact .decodes _
        | readoutY1 => cases hd; cases h; exact .decodes _
        | displayPixel x y => cases hd; cases h; exact .decodes _
        | nextDidLineEntry => cases hd; cases h; exact .nextEntry
        | didFor y x => cases hd; cases h; exact .answers _
        | getCursorPixel x y => cases hd; cases h; exact .answers _
        | is8bpp => cases hd; cases h; exact .answers _
        | modeEntry j => cases hd; cases h; exact .answers _
        | cursorCmap => cases hd; cases h; exact .answers _
        | popupCmap => cases hd; cases h; exact .answers _
      | timeout => cases hd; cases h; exact .timeout
      | hardReset => cases hd; cases h; exact .hardReset rfl
      | softReset => cases hd; cases h; exact .softReset rfl

end Sys2Proof.Machine
end

