-- ==== Sys2Proof/Laws/Timing.lean ====
section
/-! SUPPORT. What the timing generator's walks, its decode, its lines and its cursor do (47_timing_cursor.md). -/

namespace Sys2Proof.Machine

theorem tramRead_mod (s : State) (a : Nat) : tramRead s (a % s.par.tramWords) = tramRead s a := by
  simp only [tramRead, Nat.mod_mod]

/-! ## The walk of a timing table (R298) -/

/-- The first and last visible position after the first `n` pairs of a table at `a`. -/
def axisAcc (s : State) (a : Nat) (n : Nat) : Option (Nat × Nat) :=
  match n with
  | 0 => none
  | k + 1 =>
    let start := ((List.range k).map fun j => (tramRead s (a + 2 * j)).toNat).sum
    if (tramRead s (a + 2 * k + 1)).getLsbD 15 then
      match axisAcc s a k with
      | none => some (start, start + (tramRead s (a + 2 * k)).toNat - 1)
      | some (first, _) => some (first, start + (tramRead s (a + 2 * k)).toNat - 1)
    else axisAcc s a k

/-- After `n` pairs of which none terminates the table, the walk stands at pair `n`. -/
theorem axisWalk_pairs (s : State) (a n fuel : Nat) (h : ∀ k < n, (tramRead s (a + 2 * k)).toNat ≠ 0) :
    axisWalk s (n + fuel) (a % s.par.tramWords) 0 none =
      axisWalk s fuel ((a + 2 * n) % s.par.tramWords)
        ((List.range n).map fun j => (tramRead s (a + 2 * j)).toNat).sum (axisAcc s a n) := by
  induction n generalizing fuel with
  | zero => simp [axisAcc]
  | succ k ih =>
    rw [show k + 1 + fuel = k + (fuel + 1) by omega, ih (fuel + 1) fun j hj => h j (by omega)]
    have hk := h k (by omega)
    have h1 : tramRead s ((a + 2 * k) % s.par.tramWords) = tramRead s (a + 2 * k) := tramRead_mod ..
    have h2 : tramRead s (((a + 2 * k) % s.par.tramWords + 1) % s.par.tramWords) = tramRead s (a + 2 * k + 1) := by
      rw [Nat.mod_add_mod, tramRead_mod]
    have h3 : ((a + 2 * k) % s.par.tramWords + 2) % s.par.tramWords = (a + 2 * (k + 1)) % s.par.tramWords := by
      rw [Nat.mod_add_mod]; congr 1
    simp only [axisWalk, h1, h2, h3, hk, if_false, axisAcc, List.range_succ, List.map_append, List.sum_append, List.map_cons,
      List.map_nil, List.sum_cons, List.sum_nil, Nat.add_zero]
    all_goals rfl

/-- The walk of a table that is terminated at pair `n`, or as long as the bounded walk. -/
theorem decodeAxis_eq (s : State) (ptr : W16) (n : Nat) (hn : n ≤ s.par.tramWords / 2)
    (h : ∀ k < n, (tramRead s (ptr.toNat + 2 * k)).toNat ≠ 0)
    (hend : n = s.par.tramWords / 2 ∨ (tramRead s (ptr.toNat + 2 * n)).toNat = 0) :
    decodeAxis s ptr = axisAcc s ptr.toNat n := by
  obtain ⟨fuel, hf⟩ : ∃ fuel, s.par.tramWords / 2 = n + fuel := ⟨_, (Nat.add_sub_of_le hn).symm⟩
  unfold decodeAxis
  rw [hf, axisWalk_pairs s ptr.toNat n fuel h]
  cases fuel with
  | zero => rfl
  | succ f =>
    have h0 : (tramRead s ((ptr.toNat + 2 * n) % s.par.tramWords)).toNat = 0 := by
      rw [tramRead_mod]
      rcases hend with e | e
      · omega
      · exact e
    simp only [axisWalk, h0, if_true]

/-- No visible pair: no window. -/
theorem axisAcc_none {s : State} {a n : Nat} (h : ∀ k < n, (tramRead s (a + 2 * k + 1)).getLsbD 15 = false) :
    axisAcc s a n = none := by
  induction n with
  | zero => rfl
  | succ k ih =>
    simp only [axisAcc, h k (by omega), Bool.false_eq_true, if_false]
    exact ih fun j hj => h j (by omega)

/-- Visible pairs: from the start of the first visible run to the end of the last. -/
theorem axisAcc_some {s : State} {a n f l : Nat} (hl : l < n) (hfl : f ≤ l)
    (vf : (tramRead s (a + 2 * f + 1)).getLsbD 15 = true) (vl : (tramRead s (a + 2 * l + 1)).getLsbD 15 = true)
    (before : ∀ k < f, (tramRead s (a + 2 * k + 1)).getLsbD 15 = false)
    (after : ∀ k, l < k → k < n → (tramRead s (a + 2 * k + 1)).getLsbD 15 = false) :
    axisAcc s a n =
      some (((List.range f).map fun j => (tramRead s (a + 2 * j)).toNat).sum,
        ((List.range l).map fun j => (tramRead s (a + 2 * j)).toNat).sum + (tramRead s (a + 2 * l)).toNat - 1) := by
  have fst : ∀ m, f < m → ∃ q, axisAcc s a m = some (((List.range f).map fun j => (tramRead s (a + 2 * j)).toNat).sum, q) := by
    intro m hm
    induction m with
    | zero => omega
    | succ k ih =>
      by_cases hk : f = k
      · subst hk
        simp only [axisAcc, vf, if_true, axisAcc_none before]
        exact ⟨_, rfl⟩
      · obtain ⟨q, hq⟩ := ih (by omega)
        simp only [axisAcc, hq]
        split
        · exact ⟨_, rfl⟩
        · exact ⟨_, rfl⟩
  have at_l : axisAcc s a (l + 1) = some (((List.range f).map fun j => (tramRead s (a + 2 * j)).toNat).sum,
      ((List.range l).map fun j => (tramRead s (a + 2 * j)).toNat).sum + (tramRead s (a + 2 * l)).toNat - 1) := by
    by_cases hk : f = l
    · subst hk
      simp only [axisAcc, vf, if_true, axisAcc_none before]
    · obtain ⟨q, hq⟩ := fst l (by omega)
      simp only [axisAcc, vl, if_true, hq]
  have later : ∀ m, l + 1 ≤ m → m ≤ n → axisAcc s a m = axisAcc s a (l + 1) := by
    intro m h1 h2
    induction m with
    | zero => omega
    | succ k ih =>
      by_cases hk : l = k
      · rw [hk]
      · rw [← ih (by omega) (by omega)]
        simp only [axisAcc, after k (by omega) (by omega), Bool.false_eq_true, if_false]
  rw [later n (by omega) le_rfl, at_l]

/-! ## The walk of an entry list (R308) -/

/-- The DID after the first `n` words of the list at `a`, for pixel x. -/
def didAcc (s : State) (x : Int) (a n : Nat) : BitVec 5 :=
  match n with
  | 0 => 0
  | k + 1 => if ((didXstart (tramRead s (a + k))).toNat : Int) ≤ x then didIndex (tramRead s (a + k)) else didAcc s x a k

theorem didWalk_words (s : State) (x : Int) (a n fuel : Nat) (h : ∀ k < n, tramRead s (a + k) ≠ didEnd) :
    didWalk s x (n + fuel) (a % s.par.tramWords) 0 = didWalk s x fuel ((a + n) % s.par.tramWords) (didAcc s x a n) := by
  induction n generalizing fuel with
  | zero => simp [didAcc]
  | succ k ih =>
    rw [show k + 1 + fuel = k + (fuel + 1) by omega, ih (fuel + 1) fun j hj => h j (by omega)]
    have h3 : ((a + k) % s.par.tramWords + 1) % s.par.tramWords = (a + (k + 1)) % s.par.tramWords := by
      rw [Nat.mod_add_mod]; congr 1
    simp only [didWalk, tramRead_mod, h k (by omega), if_false, h3, didAcc]

/-- The walk of a list that is terminated at word `n`, or as long as the bounded walk. -/
theorem didWalk_eq (s : State) (x : Int) (a n : Nat) (hn : n ≤ s.par.tramWords) (h : ∀ k < n, tramRead s (a + k) ≠ didEnd)
    (hend : n = s.par.tramWords ∨ tramRead s (a + n) = didEnd) :
    didWalk s x s.par.tramWords (a % s.par.tramWords) 0 = didAcc s x a n := by
  obtain ⟨fuel, hf⟩ : ∃ fuel, s.par.tramWords = n + fuel := ⟨_, (Nat.add_sub_of_le hn).symm⟩
  have key := didWalk_words s x a n fuel h
  rw [← hf] at key
  rw [key]
  cases fuel with
  | zero => rfl
  | succ f =>
    have h0 : tramRead s ((a + n) % s.par.tramWords) = didEnd := by
      rw [tramRead_mod]
      rcases hend with e | e
      · omega
      · exact e
    simp only [didWalk, h0, if_true]

/-- No entry at or left of the pixel: mode 0. -/
theorem didAcc_none {s : State} {x : Int} {a n : Nat} (h : ∀ k < n, x < ((didXstart (tramRead s (a + k))).toNat : Int)) :
    didAcc s x a n = 0 := by
  induction n with
  | zero => rfl
  | succ k ih =>
    have := h k (by omega)
    rw [didAcc, if_neg (by omega)]
    exact ih fun j hj => h j (by omega)

/-- Else the last entry at or left of the pixel, in list order. -/
theorem didAcc_last {s : State} {x : Int} {a n k : Nat} (hk : k < n) (hx : ((didXstart (tramRead s (a + k))).toNat : Int) ≤ x)
    (after : ∀ j, k < j → j < n → x < ((didXstart (tramRead s (a + j))).toNat : Int)) :
    didAcc s x a n = didIndex (tramRead s (a + k)) := by
  induction n with
  | zero => omega
  | succ m ih =>
    by_cases hm : k = m
    · subst hm
      rw [didAcc, if_pos hx]
    · have := after m (by omega) (by omega)
      rw [didAcc, if_neg (by omega)]
      exact ih (by omega) fun j h1 h2 => after j h1 (by omega)

/-! ## The decode and the lines -/

/-- What a query that reads the window finds (R300). -/
theorem ensureDecoded_eq (s : State) : ensureDecoded s = s.decoded := by
  unfold ensureDecoded State.decoded State.currentWindow
  cases h : s.tg.dirty
  · simp only [Bool.false_eq_true, if_false, List.append_nil]
    rw [← h]
  · simp only [if_true]
    rfl

/-- What `begin_did_line` finds once it has checked for the vertical interrupt (R306, R321). -/
theorem vintCheck_eq (y : Nat) (s : State) :
    vintCheck y s = (let hit := s.vintEn && decide (y = s.tg.vintLine.toNat)
      { s with vint := s.vint || hit, out := s.out ++ (if hit then [Output.vint] else []) }) := by
  unfold vintCheck
  cases h : s.vintEn && decide (y = s.tg.vintLine.toNat)
  · simp
  · simp [State.setVint, State.emit]

/-- The line entry changes nothing but the line cursor and what is given out (R307, R309). -/
theorem nextDidEntry_eq (s : State) :
    nextDidEntry s = { s with
      out := (nextDidEntry s).out,
      tg := { s.tg with lc := (nextDidEntry s).tg.lc, lcEnd := (nextDidEntry s).tg.lcEnd } } := by
  unfold nextDidEntry
  split
  · rfl
  · simp only
    split <;> rfl

/-- The line entry adds to what is given out. -/
theorem nextDidEntry_out (s : State) : ∃ given, (nextDidEntry s).out = s.out ++ given := by
  unfold nextDidEntry
  split
  · exact ⟨_, rfl⟩
  · simp only
    split <;> exact ⟨_, rfl⟩

/-- Restarting the line cursor changes nothing but the line cursor and what is given out (R306, R309). -/
theorem openLine_eq (a : Nat) (s : State) :
    openLine a s = { s with
      out := (openLine a s).out, tg := { s.tg with lc := (openLine a s).tg.lc, lcEnd := (openLine a s).tg.lcEnd } } := by
  unfold openLine
  rw [nextDidEntry_eq]
  rfl

/-- Restarting the line cursor adds to what is given out. -/
theorem openLine_out (a : Nat) (s : State) : ∃ given, (openLine a s).out = s.out ++ given := nextDidEntry_out _

/-- `begin_did_line` changes nothing but the decode cache, the line cursor, STATUS.VINT, what is given out and, beyond scanline
65535 alone, the model's count of drawn line pointers (R306, R309; log 23). -/
theorem beginLine_frame (y : Nat) (s : State) :
    beginLine y s = { s with
      vint := s.vint || (s.vintEn && decide (y = s.tg.vintLine.toNat)), out := (beginLine y s).out,
      lineDraws := (beginLine y s).lineDraws,
      tg := { s.tg with
        dirty := false, win := s.currentWindow, lc := (beginLine y s).tg.lc, lcEnd := (beginLine y s).tg.lcEnd } } ∧
    (∃ given, (beginLine y s).out =
      s.decoded.out ++ (if s.vintEn && decide (y = s.tg.vintLine.toNat) then [Output.vint] else []) ++ given) ∧
    (scanlineOk y = true → (beginLine y s).lineDraws = s.lineDraws) := by
  unfold beginLine
  rw [ensureDecoded_eq]
  have hu := vintCheck_eq y s.decoded
  generalize vintCheck y s.decoded = u at hu ⊢
  have hv : u.vint = (s.vint || (s.vintEn && decide (y = s.tg.vintLine.toNat))) := by rw [hu]; rfl
  have ho : u.out = s.decoded.out ++ (if s.vintEn && decide (y = s.tg.vintLine.toNat) then [Output.vint] else []) := by
    rw [hu]; rfl
  have hf : u = { s with vint := u.vint, out := u.out, tg := s.decoded.tg } := by rw [hu]; rfl
  rw [← hv, ← ho]
  clear hv ho hu
  have hd : u.lineDraws = s.lineDraws := by rw [hf]
  simp only
  split
  · split
    · refine ⟨?_, openLine_out .., fun _ => ?_⟩
      · rw [openLine_eq, hf]
        rfl
      · rw [openLine_eq]
        exact hd
    · refine ⟨?_, openLine_out _ (u.setLineDraws _), fun h => absurd h ‹_›⟩
      rw [openLine_eq, hf]
      rfl
  · refine ⟨?_, ⟨_, rfl⟩, fun _ => hd⟩
    rw [hf]
    rfl

/-- The decoded window does not depend on the decode cache. -/
theorem decodeWindow_congr {s t : State} (ht : t.tram = s.tram) (hd : t.draws = s.draws) (hp : t.par = s.par)
    (hv : t.tg.vtFramePtr = s.tg.vtFramePtr) (hl : t.tg.vtLinePtr = s.tg.vtLinePtr) : decodeWindow t = decodeWindow s := by
  have hr : ∀ a, tramRead t a = tramRead s a := by intro a; simp only [tramRead, ht, hd, hp]
  have hw : ∀ fuel a pos acc, axisWalk t fuel a pos acc = axisWalk s fuel a pos acc := by
    intro fuel
    induction fuel with
    | zero => intros; rfl
    | succ k ih => intros; simp only [axisWalk, hr, hp, ih]
  simp only [decodeWindow, decodeAxis, hw, hp, hv, hl]

/-- Freshness of the cached window depends on the TG's registers and TRAM only. -/
theorem windowFresh_congr {s t : State} (h : s.windowFresh) (ht : t.tram = s.tram) (hd : t.draws = s.draws) (hp : t.par = s.par)
    (hv : t.tg.vtFramePtr = s.tg.vtFramePtr) (hl : t.tg.vtLinePtr = s.tg.vtLinePtr) (hy : t.tg.dirty = s.tg.dirty)
    (hw : t.tg.win = s.tg.win) : t.windowFresh := by
  unfold State.windowFresh at *
  rw [decodeWindow_congr ht hd hp hv hl, hy, hw]
  exact h

end Sys2Proof.Machine
end

