-- ==== Sys2Proof/Tests/Slice0.lean ====
section
/-! SUPPORT. The model's own tests: the well-formedness checks, every row of the opcode table read from a word written out from
the spec's encoding, the vectors of 95_test_vectors.md (each test's docstring names its source), and a witness for the hypotheses
of every obligation that has some. -/

/-- `s` with the given cells in the primary plane, by address, addresses rising. -/
def Sys2Proof.Machine.State.cells (s : Sys2Proof.Machine.State) (m : Sys2Proof.Machine.Memory 32) : Sys2Proof.Machine.State :=
  { s with planes := { Sys2Proof.Machine.Planes.reset with primary := m } }

namespace Sys2Proof.Tests

open Sys2Proof Sys2Proof.Machine

/-! ## Well-formedness -/

/-- A third CLUT instance is refused, the second is not (R271). -/
theorem test_wf_refuses_clut : (Instr.paletteBase 2).wf = false ∧ (Instr.paletteBase 1).wf = true := by decide

/-! ## Decoding -/

/-- Every host access row, reads at the register offset (R81, R82, R86): the key written out bit by bit, direction 0. -/
theorem test_decode_reads_1 :
    ([
      (0b00000000000000, .rDrawmode0), (0b00000000000100, .rDrawmode1), (0b00000000001000, .rWrmask),
      (0b00000000001100, .rColori), (0b00000000010000, .rXstart), (0b00000000010100, .rYstart), (0b00000000011000, .rXend),
      (0b00000000011100, .rYend), (0b00000000100000, .rXystarti), (0b00000000100100, .rXyendi), (0b00000000101000, .rXymove),
      (0b00000000101100, .rClipmin), (0b00000000110000, .rClipmax), (0b00000000110100, .rRed), (0b00000000111000, .rGreen),
      (0b00000000111100, .rBlue), (0b00000001000000, .rAlpha), (0b00000001000100, .rZacc), (0b00000001001000, .rSlopeR),
      (0b00000001001100, .rSlopeG), (0b00000001010000, .rSlopeB), (0b00000001010100, .rSlopeA)
    ] : List (BitVec 14 × Instr)).all (fun e => decide (decode (.host e.1 0 none) = .ok e.2)) = true := by decide

/-- Every host access row, reads at the register offset (R81, R82, R86): the key written out bit by bit, direction 0. -/
theorem test_decode_reads_2 :
    ([
      (0b00000001011000, .rSlopeZ), (0b00000001100000, .rStipx0), (0b00000001100100, .rStipx1), (0b00000001101000, .rStipx2),
      (0b00000001101100, .rStipx3), (0b00000001110000, .rStipx4), (0b00000001110100, .rStipy0), (0b00000001111000, .rStipy1),
      (0b00000001111100, .rStipy2), (0b00000010000000, .rStipy3), (0b00000010000100, .rStipy4),
      (0b00000010001000, .rBresErr), (0b00000010001100, .rBresInc1), (0b00000010010000, .rBresInc2),
      (0b00000010010100, .rBresCount), (0b00000010011000, .rBresOctant), (0b00000010011100, .rCurxy),
      (0b00000010100000, .rStatus), (0b00000010100100, .rDcbmode), (0b00000010101000, .rDcbdata0),
      (0b00000010101100, .rDcbdata1), (0b01000010110000, .r64Hostdata)
    ] : List (BitVec 14 × Instr)).all (fun e => decide (decode (.host e.1 0 none) = .ok e.2)) = true := by decide

/-- Every host access row, reads at the GO alias (R81, R82, R86): the key written out bit by bit, direction 0. -/
theorem test_decode_alias_reads_1 :
    ([
      (0b00100000000000, .raDrawmode0), (0b00100000000100, .raDrawmode1), (0b00100000001000, .raWrmask),
      (0b00100000001100, .raColori), (0b00100000010000, .raXstart), (0b00100000010100, .raYstart),
      (0b00100000011000, .raXend), (0b00100000011100, .raYend), (0b00100000100000, .raXystarti),
      (0b00100000100100, .raXyendi), (0b00100000101000, .raXymove), (0b00100000101100, .raClipmin),
      (0b00100000110000, .raClipmax), (0b00100000110100, .raRed), (0b00100000111000, .raGreen), (0b00100000111100, .raBlue),
      (0b00100001000000, .raAlpha), (0b00100001000100, .raZacc), (0b00100001001000, .raSlopeR),
      (0b00100001001100, .raSlopeG), (0b00100001010000, .raSlopeB), (0b00100001010100, .raSlopeA)
    ] : List (BitVec 14 × Instr)).all (fun e => decide (decode (.host e.1 0 none) = .ok e.2)) = true := by decide

/-- Every host access row, reads at the GO alias (R81, R82, R86): the key written out bit by bit, direction 0. -/
theorem test_decode_alias_reads_2 :
    ([
      (0b00100001011000, .raSlopeZ), (0b00100001100000, .raStipx0), (0b00100001100100, .raStipx1),
      (0b00100001101000, .raStipx2), (0b00100001101100, .raStipx3), (0b00100001110000, .raStipx4),
      (0b00100001110100, .raStipy0), (0b00100001111000, .raStipy1), (0b00100001111100, .raStipy2),
      (0b00100010000000, .raStipy3), (0b00100010000100, .raStipy4), (0b00100010001000, .raBresErr),
      (0b00100010001100, .raBresInc1), (0b00100010010000, .raBresInc2), (0b00100010010100, .raBresCount),
      (0b00100010011000, .raBresOctant), (0b00100010011100, .raCurxy), (0b00100010100000, .raStatus),
      (0b00100010100100, .raDcbmode), (0b00100010101000, .raDcbdata0), (0b00100010101100, .raDcbdata1),
      (0b01100010110000, .r64aHostdata)
    ] : List (BitVec 14 × Instr)).all (fun e => decide (decode (.host e.1 0 none) = .ok e.2)) = true := by decide

/-- Every host access row, writes at the register offset (R81, R82, R86): the key written out bit by bit, direction 1, with a value and a mask. -/
theorem test_decode_writes_1 :
    ([
      (0b10000000000000, .wDrawmode0 0x1234 0xFF), (0b10000000000100, .wDrawmode1 0x1234 0xFF),
      (0b10000000001000, .wWrmask 0x1234 0xFF), (0b10000000001100, .wColori 0x1234 0xFF),
      (0b10000000010000, .wXstart 0x1234 0xFF), (0b10000000010100, .wYstart 0x1234 0xFF),
      (0b10000000011000, .wXend 0x1234 0xFF), (0b10000000011100, .wYend 0x1234 0xFF),
      (0b10000000100000, .wXystarti 0x1234 0xFF), (0b10000000100100, .wXyendi 0x1234 0xFF),
      (0b10000000101000, .wXymove 0x1234 0xFF), (0b10000000101100, .wClipmin 0x1234 0xFF),
      (0b10000000110000, .wClipmax 0x1234 0xFF), (0b10000000110100, .wRed 0x1234 0xFF),
      (0b10000000111000, .wGreen 0x1234 0xFF), (0b10000000111100, .wBlue 0x1234 0xFF),
      (0b10000001000000, .wAlpha 0x1234 0xFF), (0b10000001000100, .wZacc 0x1234 0xFF),
      (0b10000001001000, .wSlopeR 0x1234 0xFF), (0b10000001001100, .wSlopeG 0x1234 0xFF),
      (0b10000001010000, .wSlopeB 0x1234 0xFF), (0b10000001010100, .wSlopeA 0x1234 0xFF)
    ] : List (BitVec 14 × Instr)).all (fun e => decide (decode (.host e.1 0x1234 (some 0xFF)) = .ok e.2)) = true := by decide

/-- Every host access row, writes at the register offset (R81, R82, R86): the key written out bit by bit, direction 1, with a value and a mask. -/
theorem test_decode_writes_2 :
    ([
      (0b10000001011000, .wSlopeZ 0x1234 0xFF), (0b10000001100000, .wStipx0 0x1234 0xFF),
      (0b10000001100100, .wStipx1 0x1234 0xFF), (0b10000001101000, .wStipx2 0x1234 0xFF),
      (0b10000001101100, .wStipx3 0x1234 0xFF), (0b10000001110000, .wStipx4 0x1234 0xFF),
      (0b10000001110100, .wStipy0 0x1234 0xFF), (0b10000001111000, .wStipy1 0x1234 0xFF),
      (0b10000001111100, .wStipy2 0x1234 0xFF), (0b10000010000000, .wStipy3 0x1234 0xFF),
      (0b10000010000100, .wStipy4 0x1234 0xFF), (0b10000010001000, .wBresErr 0x1234 0xFF),
      (0b10000010001100, .wBresInc1 0x1234 0xFF), (0b10000010010000, .wBresInc2 0x1234 0xFF),
      (0b10000010010100, .wBresCount 0x1234 0xFF), (0b10000010011000, .wBresOctant 0x1234 0xFF),
      (0b10000010011100, .wCurxy 0x1234 0xFF), (0b10000010100000, .wStatus 0x1234 0xFF),
      (0b10000010100100, .wDcbmode 0x1234 0xFF), (0b10000010101000, .wDcbdata0 0x1234 0xFF),
      (0b10000010101100, .wDcbdata1 0x1234 0xFF), (0b11000010110000, .w64Hostdata 0x1234 0xFF)
    ] : List (BitVec 14 × Instr)).all (fun e => decide (decode (.host e.1 0x1234 (some 0xFF)) = .ok e.2)) = true := by decide

/-- Every host access row, writes at the GO alias (R81, R82, R86): the key written out bit by bit, direction 1, with a value and a mask. -/
theorem test_decode_alias_writes_1 :
    ([
      (0b10100000000000, .gDrawmode0 0x1234 0xFF), (0b10100000000100, .gDrawmode1 0x1234 0xFF),
      (0b10100000001000, .gWrmask 0x1234 0xFF), (0b10100000001100, .gColori 0x1234 0xFF),
      (0b10100000010000, .gXstart 0x1234 0xFF), (0b10100000010100, .gYstart 0x1234 0xFF),
      (0b10100000011000, .gXend 0x1234 0xFF), (0b10100000011100, .gYend 0x1234 0xFF),
      (0b10100000100000, .gXystarti 0x1234 0xFF), (0b10100000100100, .gXyendi 0x1234 0xFF),
      (0b10100000101000, .gXymove 0x1234 0xFF), (0b10100000101100, .gClipmin 0x1234 0xFF),
      (0b10100000110000, .gClipmax 0x1234 0xFF), (0b10100000110100, .gRed 0x1234 0xFF),
      (0b10100000111000, .gGreen 0x1234 0xFF), (0b10100000111100, .gBlue 0x1234 0xFF),
      (0b10100001000000, .gAlpha 0x1234 0xFF), (0b10100001000100, .gZacc 0x1234 0xFF),
      (0b10100001001000, .gSlopeR 0x1234 0xFF), (0b10100001001100, .gSlopeG 0x1234 0xFF),
      (0b10100001010000, .gSlopeB 0x1234 0xFF), (0b10100001010100, .gSlopeA 0x1234 0xFF)
    ] : List (BitVec 14 × Instr)).all (fun e => decide (decode (.host e.1 0x1234 (some 0xFF)) = .ok e.2)) = true := by decide

/-- Every host access row, writes at the GO alias (R81, R82, R86): the key written out bit by bit, direction 1, with a value and a mask. -/
theorem test_decode_alias_writes_2 :
    ([
      (0b10100001011000, .gSlopeZ 0x1234 0xFF), (0b10100001100000, .gStipx0 0x1234 0xFF),
      (0b10100001100100, .gStipx1 0x1234 0xFF), (0b10100001101000, .gStipx2 0x1234 0xFF),
      (0b10100001101100, .gStipx3 0x1234 0xFF), (0b10100001110000, .gStipx4 0x1234 0xFF),
      (0b10100001110100, .gStipy0 0x1234 0xFF), (0b10100001111000, .gStipy1 0x1234 0xFF),
      (0b10100001111100, .gStipy2 0x1234 0xFF), (0b10100010000000, .gStipy3 0x1234 0xFF),
      (0b10100010000100, .gStipy4 0x1234 0xFF), (0b10100010001000, .gBresErr 0x1234 0xFF),
      (0b10100010001100, .gBresInc1 0x1234 0xFF), (0b10100010010000, .gBresInc2 0x1234 0xFF),
      (0b10100010010100, .gBresCount 0x1234 0xFF), (0b10100010011000, .gBresOctant 0x1234 0xFF),
      (0b10100010011100, .gCurxy 0x1234 0xFF), (0b10100010100000, .gStatus 0x1234 0xFF),
      (0b10100010100100, .gDcbmode 0x1234 0xFF), (0b10100010101000, .gDcbdata0 0x1234 0xFF),
      (0b10100010101100, .gDcbdata1 0x1234 0xFF), (0b11100010110000, .g64Hostdata 0x1234 0xFF)
    ] : List (BitVec 14 × Instr)).all (fun e => decide (decode (.host e.1 0x1234 (some 0xFF)) = .ok e.2)) = true := by decide

/-- Every command key (R90): DIR, COPY, CMD written out bit by bit. -/
theorem test_decode_commands :
    ([
      (0b00000, .nop false false), (0b00001, .pixel false false), (0b00010, .line false false), (0b00011, .blockFill false),
      (0b00100, .hostToFrame false), (0b00101, .reservedCmd5 false false), (0b00110, .reservedCmd6 false false),
      (0b00111, .reservedCmd7 false false), (0b01000, .nop true false), (0b01001, .pixel true false),
      (0b01010, .line true false), (0b01011, .blockCopy false), (0b01100, .hostToFrame true),
      (0b01101, .reservedCmd5 true false), (0b01110, .reservedCmd6 true false), (0b01111, .reservedCmd7 true false),
      (0b10000, .nop false true), (0b10001, .pixel false true), (0b10010, .line false true), (0b10011, .blockFill true),
      (0b10100, .frameToHost false), (0b10101, .reservedCmd5 false true), (0b10110, .reservedCmd6 false true),
      (0b10111, .reservedCmd7 false true), (0b11000, .nop true true), (0b11001, .pixel true true),
      (0b11010, .line true true), (0b11011, .blockCopy true), (0b11100, .frameToHost true),
      (0b11101, .reservedCmd5 true true), (0b11110, .reservedCmd6 true true), (0b11111, .reservedCmd7 true true)
    ] : List (BitVec 5 × Instr)).all (fun e => decide (decode (.command e.1) = .ok e.2)) = true := by decide

/-- Every DCB write row (R91, R92): direction, SLAVESEL, REGSEL written out bit by bit; a free field at its least and its greatest value. -/
theorem test_decode_dcb_writes_1 :
    ([
      (0b100000000, .dcbwTgVtFramePtr), (0b100000001, .dcbwTgVtLinePtr), (0b100000010, .dcbwTgDidFramePtr),
      (0b100000011, .dcbwTgCursorGlyphPtr), (0b100000100, .dcbwTgCursorX), (0b100000101, .dcbwTgCursorY),
      (0b100000110, .dcbwTgDisplayCtrl), (0b100000111, .dcbwTgVintLine), (0b100001000, .dcbwTgRamAddr),
      (0b100001001, .dcbwTgRamData), (0b100001010, .dcbwTgRevision), (0b100001011, .dcbwTgReserved11),
      (0b100001100, .dcbwTgReserved12to15 0), (0b100001111, .dcbwTgReserved12to15 3), (0b100010000, .dcbwClut01Index),
      (0b100010001, .dcbwClut01Data), (0b100010010, .dcbwClut01Revision), (0b100010011, .dcbwClut01Reserved3),
      (0b100010100, .dcbwClut01Reserved4to7 0), (0b100010111, .dcbwClut01Reserved4to7 3),
      (0b100011000, .dcbwClut01Reserved8to15 0), (0b100011111, .dcbwClut01Reserved8to15 7), (0b100100000, .dcbwClut0Index),
      (0b100100001, .dcbwClut0Data), (0b100100010, .dcbwClut0Revision), (0b100100011, .dcbwClut0Reserved3),
      (0b100100100, .dcbwClut0Reserved4to7 0), (0b100100111, .dcbwClut0Reserved4to7 3),
      (0b100101000, .dcbwClut0Reserved8to15 0), (0b100101111, .dcbwClut0Reserved8to15 7), (0b100110000, .dcbwClut1Index),
      (0b100110001, .dcbwClut1Data), (0b100110010, .dcbwClut1Revision), (0b100110011, .dcbwClut1Reserved3),
      (0b100110100, .dcbwClut1Reserved4to7 0), (0b100110111, .dcbwClut1Reserved4to7 3),
      (0b100111000, .dcbwClut1Reserved8to15 0), (0b100111111, .dcbwClut1Reserved8to15 7), (0b101000000, .dcbwPmr01Config)
    ] : List (BitVec 9 × Instr)).all (fun e => decide (decode (.dcb e.1) = .ok e.2)) = true := by decide

/-- Every DCB write row (R91, R92): direction, SLAVESEL, REGSEL written out bit by bit; a free field at its least and its greatest value. -/
theorem test_decode_dcb_writes_2 :
    ([
      (0b101000001, .dcbwPmr01Revision), (0b101000010, .dcbwPmr01Fifoavail), (0b101000011, .dcbwPmr01CursorCmap),
      (0b101000100, .dcbwPmr01PopupCmap), (0b101000101, .dcbwPmr01ModeIndex), (0b101000110, .dcbwPmr01ModeData),
      (0b101000111, .dcbwPmr01Reserved7), (0b101001000, .dcbwPmr01Reserved8to15 0), (0b101001111, .dcbwPmr01Reserved8to15 7),
      (0b101010000, .dcbwPmr0Config), (0b101010001, .dcbwPmr0Revision), (0b101010010, .dcbwPmr0Fifoavail),
      (0b101010011, .dcbwPmr0CursorCmap), (0b101010100, .dcbwPmr0PopupCmap), (0b101010101, .dcbwPmr0ModeIndex),
      (0b101010110, .dcbwPmr0ModeData), (0b101010111, .dcbwPmr0Reserved7), (0b101011000, .dcbwPmr0Reserved8to15 0),
      (0b101011111, .dcbwPmr0Reserved8to15 7), (0b101100000, .dcbwPmr1Config), (0b101100001, .dcbwPmr1Revision),
      (0b101100010, .dcbwPmr1Fifoavail), (0b101100011, .dcbwPmr1CursorCmap), (0b101100100, .dcbwPmr1PopupCmap),
      (0b101100101, .dcbwPmr1ModeIndex), (0b101100110, .dcbwPmr1ModeData), (0b101100111, .dcbwPmr1Reserved7),
      (0b101101000, .dcbwPmr1Reserved8to15 0), (0b101101111, .dcbwPmr1Reserved8to15 7), (0b101110000, .dcbwAnalogR 0),
      (0b101111111, .dcbwAnalogR 15), (0b110000000, .dcbwLatch0R 0), (0b110001111, .dcbwLatch0R 15),
      (0b110010000, .dcbwLatch1R 0), (0b110011111, .dcbwLatch1R 15), (0b110100000, .dcbwNone10to11 0),
      (0b110111111, .dcbwNone10to11 31), (0b111000000, .dcbwNone12to15 0), (0b111111111, .dcbwNone12to15 63)
    ] : List (BitVec 9 × Instr)).all (fun e => decide (decode (.dcb e.1) = .ok e.2)) = true := by decide

/-- Every DCB read row (R91, R92): direction, SLAVESEL, REGSEL written out bit by bit; a free field at its least and its greatest value. -/
theorem test_decode_dcb_reads_1 :
    ([
      (0b000000000, .dcbrTgVtFramePtr), (0b000000001, .dcbrTgVtLinePtr), (0b000000010, .dcbrTgDidFramePtr),
      (0b000000011, .dcbrTgCursorGlyphPtr), (0b000000100, .dcbrTgCursorX), (0b000000101, .dcbrTgCursorY),
      (0b000000110, .dcbrTgDisplayCtrl), (0b000000111, .dcbrTgVintLine), (0b000001000, .dcbrTgRamAddr),
      (0b000001001, .dcbrTgRamData), (0b000001010, .dcbrTgRevision), (0b000001011, .dcbrTgReserved11),
      (0b000001100, .dcbrTgReserved12to15 0), (0b000001111, .dcbrTgReserved12to15 3), (0b000010000, .dcbrClut01Index),
      (0b000010001, .dcbrClut01Data), (0b000010010, .dcbrClut01Revision), (0b000010011, .dcbrClut01Reserved3),
      (0b000010100, .dcbrClut01Reserved4to7 0), (0b000010111, .dcbrClut01Reserved4to7 3),
      (0b000011000, .dcbrClut01Reserved8to15 0), (0b000011111, .dcbrClut01Reserved8to15 7), (0b000100000, .dcbrClut0Index),
      (0b000100001, .dcbrClut0Data), (0b000100010, .dcbrClut0Revision), (0b000100011, .dcbrClut0Reserved3),
      (0b000100100, .dcbrClut0Reserved4to7 0), (0b000100111, .dcbrClut0Reserved4to7 3),
      (0b000101000, .dcbrClut0Reserved8to15 0), (0b000101111, .dcbrClut0Reserved8to15 7), (0b000110000, .dcbrClut1Index),
      (0b000110001, .dcbrClut1Data), (0b000110010, .dcbrClut1Revision), (0b000110011, .dcbrClut1Reserved3),
      (0b000110100, .dcbrClut1Reserved4to7 0), (0b000110111, .dcbrClut1Reserved4to7 3),
      (0b000111000, .dcbrClut1Reserved8to15 0), (0b000111111, .dcbrClut1Reserved8to15 7), (0b001000000, .dcbrPmr01Config)
    ] : List (BitVec 9 × Instr)).all (fun e => decide (decode (.dcb e.1) = .ok e.2)) = true := by decide

/-- Every DCB read row (R91, R92): direction, SLAVESEL, REGSEL written out bit by bit; a free field at its least and its greatest value. -/
theorem test_decode_dcb_reads_2 :
    ([
      (0b001000001, .dcbrPmr01Revision), (0b001000010, .dcbrPmr01Fifoavail), (0b001000011, .dcbrPmr01CursorCmap),
      (0b001000100, .dcbrPmr01PopupCmap), (0b001000101, .dcbrPmr01ModeIndex), (0b001000110, .dcbrPmr01ModeData),
      (0b001000111, .dcbrPmr01Reserved7), (0b001001000, .dcbrPmr01Reserved8to15 0), (0b001001111, .dcbrPmr01Reserved8to15 7),
      (0b001010000, .dcbrPmr0Config), (0b001010001, .dcbrPmr0Revision), (0b001010010, .dcbrPmr0Fifoavail),
      (0b001010011, .dcbrPmr0CursorCmap), (0b001010100, .dcbrPmr0PopupCmap), (0b001010101, .dcbrPmr0ModeIndex),
      (0b001010110, .dcbrPmr0ModeData), (0b001010111, .dcbrPmr0Reserved7), (0b001011000, .dcbrPmr0Reserved8to15 0),
      (0b001011111, .dcbrPmr0Reserved8to15 7), (0b001100000, .dcbrPmr1Config), (0b001100001, .dcbrPmr1Revision),
      (0b001100010, .dcbrPmr1Fifoavail), (0b001100011, .dcbrPmr1CursorCmap), (0b001100100, .dcbrPmr1PopupCmap),
      (0b001100101, .dcbrPmr1ModeIndex), (0b001100110, .dcbrPmr1ModeData), (0b001100111, .dcbrPmr1Reserved7),
      (0b001101000, .dcbrPmr1Reserved8to15 0), (0b001101111, .dcbrPmr1Reserved8to15 7), (0b001110000, .dcbrAnalogR 0),
      (0b001111111, .dcbrAnalogR 15), (0b010000000, .dcbrLatch0R 0), (0b010001111, .dcbrLatch0R 15),
      (0b010010000, .dcbrLatch1R 0), (0b010011111, .dcbrLatch1R 15), (0b010100000, .dcbrNone10to11 0),
      (0b010111111, .dcbrNone10to11 31), (0b011000000, .dcbrNone12to15 0), (0b011111111, .dcbrNone12to15 63)
    ] : List (BitVec 9 × Instr)).all (fun e => decide (decode (.dcb e.1) = .ok e.2)) = true := by decide

/-- The queries are selected by name, the event and the resets are themselves (R98, R341, R381, R382); a scanline
beyond the line table is read (log 23), a third CLUT is refused by name (log 11). -/
theorem test_decode_named :
    decode (.query .readoutX0) = .ok .readoutX0 ∧ decode (.query .readoutY0) = .ok .readoutY0 ∧
      decode (.query .readoutX1) = .ok .readoutX1 ∧ decode (.query .readoutY1) = .ok .readoutY1 ∧
      decode (.query (.beginDidLine 7)) = .ok (.beginDidLine 7) ∧ decode (.query .nextDidLineEntry) = .ok .nextDidLineEntry ∧
      decode (.query (.didFor 1 2)) = .ok (.didFor 1 2) ∧ decode (.query (.getCursorPixel 1 2)) = .ok (.getCursorPixel 1 2) ∧
      decode (.query (.displayPixel 1 2)) = .ok (.displayPixel 1 2) ∧ decode (.query (.paletteBase 1)) = .ok (.paletteBase 1) ∧
      decode (.query .is8bpp) = .ok .is8bpp ∧ decode (.query (.modeEntry 3)) = .ok (.modeEntry 3) ∧
      decode (.query .cursorCmap) = .ok .cursorCmap ∧ decode (.query .popupCmap) = .ok .popupCmap ∧
      decode .timeout = .ok .dcbTimeout ∧ decode .hardReset = .ok .hardReset ∧ decode .softReset = .ok .softReset ∧
      decode (.query (.beginDidLine 65536)) = .ok (.beginDidLine 65536) ∧
      decode (.query (.paletteBase 2)) = .error (.noSuchClut 2) := by decide

/-! ## Small states -/

/-- Parameters with 16 x 16 planes. -/
def par16 : Params := { Params.default with fbW := 16, fbH := 16 }

/-- The state after reset with 16 x 16 planes. -/
def base : State := { State.reset with par := par16 }

/-- `base` with the given CE registers. -/
def withRegs (l : List (Reg × W32)) : State := { base with ce := l.foldl (fun c e => c.set e.1 e.2) CeRegs.reset }

/-- The state an instruction leaves, as a list that is empty when it leaves none. -/
def after (i : Instr) (s : State) : List State :=
  match exec i s with
  | .next t => [t]
  | _ => []

/-- The instruction leaves a state with this property. -/
def leaves (i : Instr) (s : State) (p : State → Bool) : Bool := (after i s).any p

/-! ## Register access (95_test_vectors.md 2.1) -/

/-- V-REG-2. -/
theorem test_write_wrmask_lanes :
    leaves (.wWrmask 0 0x0000FFFF) base (fun t => t.ce.wrmask = 0xFFFF0000) = true := by decide

/-- V-REG-3: the reserved bits stay 0. -/
theorem test_write_drawmode0_reserved :
    leaves (.wDrawmode0 0xFFFFFFFF 0xFFFFFFFF) base (fun t => t.ce.drawmode0 = 0x0001FFFF) = true := by decide

/-- V-REG-4. -/
theorem test_write_drawmode1_reserved :
    leaves (.wDrawmode1 0xFFFFFFFF 0xFFFFFFFF) base (fun t => t.ce.drawmode1 = 0x0003FFFF) = true := by decide

/-- V-REG-5. -/
theorem test_write_dcbmode_reserved :
    leaves (.wDcbmode 0xFFFFFFFF 0xFFFFFFFF) base (fun t => t.ce.dcbmode = 0x000000FF) = true := by decide

/-- V-REG-6 and V-REG-7: a reserved offset reads 0; a wrong width, a misaligned offset and a reserved offset are no
instruction. -/
theorem test_invalid_accesses :
    decode (.host 0x005C 0 none) = .error (.invalidRead false) ∧ decode (.host 0x085C 0 none) = .error (.invalidRead false) ∧
      decode (.host 0x20B4 5 none) = .error .invalidWrite ∧ decode (.host 0x20B0 5 none) = .error .invalidWrite ∧
      decode (.host 0x2012 5 none) = .error .invalidWrite := by decide

/-- V-REG-9. -/
theorem test_write_xystarti :
    leaves (.wXystarti 0xFFFE0003 0xFFFFFFFF) base
      (fun t => t.ce.xstart = 0xFFFE0000 && t.ce.ystart = 0x00030000 && t.xystarti = 0xFFFE0003) = true := by decide

/-- V-REG-10: the half not selected keeps its fraction. -/
theorem test_write_xystarti_half :
    leaves (.wXystarti 0x00070000 0xFFFF0000) (withRegs [(.xstart, 0x000A8000), (.ystart, 0x00058000)])
      (fun t => t.ce.xstart = 0x00070000 && t.ce.ystart = 0x00058000) = true := by decide

/-- V-REG-11: floor. -/
theorem test_coordinate_floor : (withRegs [(.xstart, 0xFFFF8000)]).x0 = -1 := by decide

/-- V-REG-13 and V-REG-14: writing 1 clears; nothing else is writable. -/
theorem test_write_status :
    leaves (.wStatus 8 0xFFFFFFFF) { base with vint := true, dcbtmo := true } (fun t => statusWord t = 0x10) = true ∧
      leaves (.wStatus 0xFFFFFFFF 0xFFFFFFFF) { base with vint := true, dcbPending := true } (fun t => statusWord t = 4) = true := by
  decide

/-- V-REG-15: a mask of 0 clears nothing. -/
theorem test_write_status_mask0 :
    leaves (.wStatus 0x10 0) { base with vint := true } (fun t => statusWord t = 0x10) = true := by decide

/-- V-REG-16: the write is ignored, the zero-length LINE runs. -/
theorem test_go_read_only :
    leaves (.gBresCount 5 0xFFFFFFFF) (withRegs [(.drawmode0, 0x22), (.bresCount, 9)])
      (fun t => t.ce.bresCount = 0 && t.planes = Planes.reset) = true := by decide

/-- V-REG-17. -/
theorem test_reset_reads :
    (leaves .rDrawmode0 base (fun t => t.out = [.data32 0]) && leaves .rDrawmode1 base (fun t => t.out = [.data32 0x260]) &&
      leaves .rWrmask base (fun t => t.out = [.data32 0xFFFFFFFF]) && leaves .rClipmin base (fun t => t.out = [.data32 0]) &&
      leaves .rClipmax base (fun t => t.out = [.data32 0x7FFF7FFF]) && leaves .rStatus base (fun t => t.out = [.data32 0]) &&
      leaves .rCurxy base (fun t => t.out = [.data32 0])) = true := by decide

/-- V-REG-18: HOSTDATA without a transfer. -/
theorem test_hostdata_stores :
    leaves (.w64Hostdata 0x00FF0000 0xFFFFFFFFFFFFFFFF) base (fun t => t.hostdata = 0x00FF0000 && t.planes = base.planes) = true ∧
      leaves .r64Hostdata { base with hostdata := 0x00FF0000 } (fun t => t.out = [.data64 0x00FF0000]) = true := by decide

/-- V-REG-19. -/
theorem test_read_xystarti :
    leaves .rXystarti (withRegs [(.xstart, 0x000A8000)]) (fun t => t.out = [.data32 0x000A0000]) = true := by decide

/-! ## Commands (95_test_vectors.md 2.2) -/

/-- V-CMD-1: clipped, the accumulator still advances. -/
theorem test_pixel_clipped :
    leaves (.gXystarti 0 0xFFFFFFFF)
      (withRegs [(.drawmode0, 0x221), (.drawmode1, 0x273), (.clipmin, 0x00020002), (.clipmax, 0x00080008), (.slopeR, 0x00010000)])
      (fun t => t.planes = Planes.reset && t.ce.red = 0x00010000 && t.ce.curxy = 0 && statusWord t = 0) = true := by decide

/-- V-CMD-2: planes 0 and 2, 8 bits of the cell. -/
theorem test_pixel_planes :
    leaves (.gXystarti 0x00030004 0xFFFFFFFF)
      { withRegs [(.drawmode0, 0xA1), (.drawmode1, 0x261), (.colori, 0x12345678)] with
        planes := { primary := [(67, 0)], overlay := [(67, 0)], popup := [(67, 0)], cid := [(67, 0)] } }
      (fun t => planeRead t .primary 3 4 = 0x78 && planeRead t .overlay 3 4 = 0 && planeRead t .popup 3 4 = 0x78 &&
        planeRead t .cid 3 4 = 0 && t.ce.curxy = 0x00030004) = true := by decide

/-- V-CMD-4: a reserved command. -/
theorem test_reserved_command :
    leaves (.reservedCmd5 false false) (withRegs [(.drawmode0, 0x25), (.colori, 0xFF)]) (fun t => t.ce.curxy = 0 &&
      t.planes = Planes.reset) = true := by decide

/-- S6: the flat line, 11 pixels, and the registers it leaves. -/
theorem test_line_scenario1 :
    leaves (.gXyendi 0x000A0000 0xFFFFFFFF)
      ((withRegs [(.drawmode0, 0x822), (.drawmode1, 0x263), (.colori, 0x00ABCDEF)]).cells
        [(0, 0xFF000001), (5, 0xFF000001), (10, 0xFF000001), (11, 0xFF000001)])
      (fun t => planeRead t .primary 0 0 = 0xFFABCDEF && planeRead t .primary 5 0 = 0xFFABCDEF &&
        planeRead t .primary 10 0 = 0xFFABCDEF && planeRead t .primary 11 0 = 0xFF000001 && t.planes.primary.length = 12 &&
        t.ce.curxy = 0x000A0000 && t.ce.bresCount = 0 && t.ce.bresInc2 = 0xFFFFFFEC && t.ce.bresErr = 0xFFFFFFF6) = true := by decide +kernel

/-- V-CMD-6: the corners of a fill, the neighbours unchanged. -/
theorem test_block_fill :
    leaves (.gXyendi 0x00020002 0xFFFFFFFF)
      ((withRegs [(.drawmode0, 0x23), (.drawmode1, 0x261), (.colori, 0x5A), (.xstart, 0x00010000), (.ystart, 0x00010000)]).cells
        [(0, 0x11223344), (17, 0x11223344), (18, 0x11223344), (19, 0x11223344), (33, 0x11223344), (34, 0x11223344)])
      (fun t => t.planes.primary = [(0, 0x11223344), (17, 0x1122335A), (18, 0x1122335A), (19, 0x11223344), (33, 0x1122335A),
        (34, 0x1122335A)]) = true := by decide +kernel

/-- V-CMD-8: the visiting order, seen through the shading. -/
theorem test_block_fill_order :
    leaves (.gXyendi 0 0xFFFFFFFF)
      ((withRegs [(.drawmode0, 0x223), (.drawmode1, 0x261), (.slopeR, 0x00010000), (.xstart, 0x00010000), (.ystart, 0x00010000)]).cells
        [(0, 0), (1, 0), (16, 0), (17, 0)])
      (fun t => t.planes.primary = [(0, 3), (1, 2), (16, 1), (17, 0)] && t.ce.curxy = 0) = true := by decide +kernel

/-- V-CMD-10: an overlapping copy smears. -/
theorem test_block_copy_overlap :
    leaves (.gXyendi 0x00010000 0xFFFFFFFF)
      ((withRegs [(.drawmode0, 0x2B), (.drawmode1, 0x263), (.xymove, 0x00010000)]).cells [(0, 1), (1, 2), (2, 7)])
      (fun t => t.planes.primary = [(0, 1), (1, 1), (2, 1)] && t.ce.curxy = 0x00010000) = true := by decide

/-- V-CMD-12: the copy goes through the logic operation. -/
theorem test_block_copy_xor :
    leaves (.blockCopy false)
      ((withRegs [(.drawmode0, 0x2B), (.drawmode1, 0xC1), (.xymove, 0x00020000)]).cells [(0, 0xF0), (2, 0xFF)])
      (fun t => t.planes.primary = [(0, 0xF0), (2, 0x0F)]) = true := by decide

/-- V-CMD-13: a source off the plane reads 0. -/
theorem test_block_copy_off_plane :
    leaves (.blockCopy false)
      ((withRegs [(.drawmode0, 0x2B), (.drawmode1, 0x263), (.xymove, 0x00010000), (.xstart, 0xFFFF0000), (.xend, 0xFFFF0000)]).cells
        [(0, 9)])
      (fun t => t.planes.primary = [(0, 0)]) = true := by decide

/-- V-CMD-14: the host-data colour source. -/
theorem test_pixel_host_source :
    leaves (.pixel false false) ({ withRegs [(.drawmode0, 0x421), (.drawmode1, 0x2027F)] with hostdata := 0x12345600 }.cells [(0, 0)])
      (fun t => planeRead t .primary 0 0 = 0x123456) = true := by decide

/-- V-CMD-15: the setup of a transfer. -/
theorem test_host_setup :
    leaves (.hostToFrame false) (withRegs [(.drawmode0, 0x24), (.drawmode1, 0x265), (.xend, 0x00010000), (.yend, 0x00010000)])
      (fun t => statusWord t = 2 && t.ce.curxy = 0 && t.xf.x1 = 1 && t.xf.y1 = 1) = true := by decide

/-- A transfer over (0, 0)-(2, 0) that has not moved a pixel. -/
def xfer3 (d : XferDir) : Xfer := { Xfer.reset with active := true, dir := d, x1 := 2 }

/-- V-CMD-18: two pixels of one word, the more significant half first; the third completes and the fourth is discarded. -/
theorem test_host_consume_packed :
    leaves (.w64Hostdata 0x000000A1000000A2 0xFFFFFFFFFFFFFFFF)
        ({ withRegs [(.drawmode0, 0x24), (.drawmode1, 0x8265)] with xf := xfer3 .hostToFrame }.cells [(0, 0), (1, 0), (2, 0)])
        (fun t => t.planes.primary = [(0, 0xA1), (1, 0xA2), (2, 0)] && statusWord t = 2 && t.ce.curxy = 0x00010000) = true ∧
      leaves (.w64Hostdata 0x000000A3000000A4 0xFFFFFFFFFFFFFFFF)
        ({ withRegs [(.drawmode0, 0x24), (.drawmode1, 0x8265)] with xf := { xfer3 .hostToFrame with hx := 2 } }.cells [(2, 0)])
        (fun t => t.planes.primary = [(2, 0xA3)] && statusWord t = 0 && t.ce.curxy = 0x00020000) = true := by decide

/-- V-CMD-17: a DRAWMODE1 write ends the transfer, even with the same value. -/
theorem test_transfer_ends :
    leaves (.wDrawmode1 0x265 0xFFFFFFFF) { withRegs [(.drawmode1, 0x265)] with xf := xfer3 .hostToFrame }
      (fun t => statusWord t = 0) = true := by decide

/-- V-CMD-19: two pixels read in one word, and the half after the last pixel reads 0. -/
theorem test_host_produce_packed :
    leaves .r64Hostdata
        ({ withRegs [(.drawmode0, 0x34), (.drawmode1, 0x10265)] with xf := xfer3 .frameToHost }.cells [(0, 0x11), (1, 0x22), (2, 0x33)])
        (fun t => t.out = [.data64 0x0000001100000022] && statusWord t = 2) = true ∧
      leaves .r64Hostdata
        ({ withRegs [(.drawmode0, 0x34), (.drawmode1, 0x10265)] with xf := { xfer3 .frameToHost with hx := 2 } }.cells [(2, 0x33)])
        (fun t => t.out = [.data64 0x0000003300000000] && statusWord t = 0) = true := by decide

/-- V-CMD-20: the lowest enabled plane is read. -/
theorem test_host_produce_plane :
    leaves .r64Hostdata
      { withRegs [(.drawmode0, 0xD4), (.drawmode1, 0x265)] with
        xf := { Xfer.reset with active := true, dir := .frameToHost },
        planes := { Planes.reset with overlay := [(0, 0x5A)], popup := [(0, 0x77)] } }
      (fun t => t.out = [.data64 0x5A] && statusWord t = 0) = true := by decide

/-- V-CMD-22. -/
theorem test_host_produce_rgb :
    leaves .r64Hostdata
      ({ withRegs [(.drawmode0, 0x34), (.drawmode1, 0x7F)] with xf := { Xfer.reset with active := true, dir := .frameToHost } }.cells
        [(0, 0x123456)])
      (fun t => t.out = [.data64 0x00563412]) = true := by decide

/-- V-CMD-23: a NOP ends the transfer. -/
theorem test_nop_ends_transfer :
    leaves (.gDrawmode0 0x20 0xFFFFFFFF) { withRegs [(.drawmode0, 0x24)] with xf := xfer3 .hostToFrame }
      (fun t => statusWord t = 0 && t.planes = Planes.reset) = true := by decide

/-- V-CMD-24: a write against the transfer's direction only stores. -/
theorem test_hostdata_wrong_direction :
    leaves (.w64Hostdata 0x99 0xFFFFFFFFFFFFFFFF) { withRegs [(.drawmode0, 0x34)] with xf := xfer3 .frameToHost }
      (fun t => t.hostdata = 0x99 && t.xf = xfer3 .frameToHost && t.planes = Planes.reset) = true := by decide

/-! ## Pixel pipeline (95_test_vectors.md 2.3) -/

/-- V-PIPE-1 and V-PIPE-2. -/
theorem test_clip :
    let s := withRegs [(.clipmin, 0x00020002), (.clipmax, 0x00080008)]
    (clipPass s 2 2 && clipPass s 8 8 && !clipPass s 0 0 && !clipPass s 1 5 && !clipPass s 9 8) = true := by decide

/-- V-PIPE-5. -/
theorem test_bounds : (!boundsPass base 16 0 && !boundsPass base (-1) 0 && boundsPass base 15 15) = true := by decide

/-- V-PIPE-6 and V-PIPE-8. -/
theorem test_stipple :
    let s := withRegs [(.stipx0, 0x55555555), (.stipy0, 0xFFFFFFFF), (.drawmode0, 0x1000)]
    (stipplePass s 0 0 && !stipplePass s 1 0 && stipplePass s 2 0 && stipplePass s (-2) 0 &&
      stipplePass (withRegs [(.drawmode0, 0xB000)]) 0 0) = true := by decide

/-- V-PIPE-9 and V-PIPE-21: only the low db(DEPTH) bits of the cell are written. -/
theorem test_store_depth :
    storeValue (withRegs [(.drawmode1, 0x260)]) 0xFFFFFFFF 0x12345678 = 0xFFFFFFF8 ∧
      storeValue (withRegs [(.drawmode1, 0x263)]) 0xAB000000 0 = 0xAB000000 := by decide

/-- V-PIPE-20: the write mask. -/
theorem test_store_wrmask : storeValue (withRegs [(.drawmode1, 0x261), (.wrmask, 0x3C)]) 0xF0 0x0F = 0xCC := by decide

/-- V-PIPE-10: the channels clamp. -/
theorem test_shaded_value :
    shadedValue (withRegs [(.drawmode1, 0x73), (.red, 0x00FF8000), (.green, 0xFFFF0000), (.blue, 0x01000000)]) = 0xFF00FF := by
  decide

/-- V-PIPE-11 to V-PIPE-14. -/
theorem test_host_source :
    hostSource (withRegs [(.drawmode1, 0x7F)]) 0x00563412 = 0x123456 ∧ hostSource (withRegs [(.drawmode1, 0x7B)]) 0xCBA = 0xAABBCC ∧
      hostSource (withRegs [(.drawmode1, 0x6D)]) 0x123456 = 0x56 ∧ hostSource (withRegs [(.drawmode1, 0x274)]) 0xE0 = 1 := by decide

/-- V-PIPE-15: the sixteen logic operations of s = 0xCC, d = 0xAA, in the order of their codes. -/
theorem test_logicop :
    (List.range 16).map (fun n => logicop (BitVec.ofNat 4 n) 0xCC 0xAA &&& 0xFF) =
      [0x00, 0x88, 0x44, 0xCC, 0x22, 0xAA, 0x66, 0xEE, 0x11, 0x99, 0x55, 0xDD, 0x33, 0xBB, 0x77, 0xFF] := by decide

/-- V-PIPE-18: rows of the table of R193. -/
theorem test_blend_channel :
    blendChannel 2 3 255 200 100 = 200 ∧ blendChannel 2 3 0 200 100 = 100 ∧ blendChannel 2 3 128 200 100 = 150 ∧
      blendChannel 2 3 128 255 0 = 128 ∧ blendChannel 4 0 0 100 50 = 20 := by decide

/-- V-PIPE-19: BLEND in CI mode runs the logic operation. -/
theorem test_blend_ci : rop (withRegs [(.drawmode0, 0x10000), (.drawmode1, 0xC1)]) 0xF0 0xFF = 0x0F := by decide

/-! ## Rasterizer (43_rasterizer.md R224, 95_test_vectors.md 2.4) -/

/-- The positions of the line to (x, y) from (0, 0), and its octant, increments and first decision value, the last three as
integers. -/
def lineVector (x y : Int) : List (Int × Int) × Nat × Int × Int × Int :=
  let l := lineSetup 0 0 x y
  let c := (loadBres l base).ce
  ((List.range (l.visits true)).map (fun k => ((lineRun l k (lineStart l base)).x, (lineRun l k (lineStart l base)).y)),
    c.bresOctant.toNat, c.bresInc1.toInt, c.bresInc2.toInt, c.bresErr.toInt)

/-- R224: the eight octants. -/
theorem test_line_octants :
    ([(2, 1, [(0, 0), (1, 1), (2, 1)], 0, 2, -2, 0), (1, 2, [(0, 0), (1, 1), (1, 2)], 1, 2, -2, 0),
      (-2, 1, [(0, 0), (-1, 1), (-2, 1)], 2, 2, -2, 0), (-1, 2, [(0, 0), (-1, 1), (-1, 2)], 3, 2, -2, 0),
      (2, -1, [(0, 0), (1, -1), (2, -1)], 4, 2, -2, 0), (1, -2, [(0, 0), (1, -1), (1, -2)], 5, 2, -2, 0),
      (-2, -1, [(0, 0), (-1, -1), (-2, -1)], 6, 2, -2, 0), (-1, -2, [(0, 0), (-1, -1), (-1, -2)], 7, 2, -2, 0)] :
      List (Int × Int × List (Int × Int) × Nat × Int × Int × Int)).all
      (fun e => decide (lineVector e.1 e.2.1 = e.2.2)) = true := by decide +kernel

/-- R224: diagonals, the tie, an axis, the zero-length line. -/
theorem test_line_corners :
    ([(-3, -3, [(0, 0), (-1, -1), (-2, -2), (-3, -3)], 6, 6, 0, 3),
      (5, 2, [(0, 0), (1, 0), (2, 1), (3, 1), (4, 2), (5, 2)], 0, 4, -6, -1),
      (4, 1, [(0, 0), (1, 0), (2, 1), (3, 1), (4, 1)], 0, 2, -6, -2), (3, 2, [(0, 0), (1, 1), (2, 1), (3, 2)], 0, 4, -2, 1),
      (0, -5, [(0, 0), (0, -1), (0, -2), (0, -3), (0, -4), (0, -5)], 5, 0, -10, -5), (0, 0, [], 0, 0, 0, 0)] :
      List (Int × Int × List (Int × Int) × Nat × Int × Int × Int)).all
      (fun e => decide (lineVector e.1 e.2.1 = e.2.2)) = true := by decide +kernel

/-- R225: the shaded line, one advance for each position. -/
theorem test_line_shaded :
    leaves (.line false false)
      ((withRegs [(.drawmode0, 0xA22), (.drawmode1, 0x273), (.slopeR, 0x00100000), (.xend, 0x00030000)]).cells
        [(0, 0), (1, 0), (2, 0), (3, 0)])
      (fun t => t.planes.primary = [(0, 0), (1, 0x10), (2, 0x20), (3, 0x30)] && t.ce.red = 0x00400000) = true := by decide

/-! ## Pixel formats (44_pixel_format.md R233 to R239, 95_test_vectors.md 2.5) -/

/-- The table of R236. -/
theorem test_convert :
    convert .d4 .d24 1 = 0xFF ∧ convert .d4 .d24 6 = 0xFF00 ∧ convert .d4 .d24 8 = 0xFF0000 ∧ convert .d4 .d24 0xF = 0xFFFFFF ∧
      convert .d8 .d24 0x5A = 0x556D49 ∧ convert .d12 .d24 0xABC = 0xAABBCC ∧ convert .d24 .d4 0xFF8080 = 0xD ∧
      convert .d24 .d8 0x123456 = 0x0A ∧ convert .d24 .d8 0x80FF7F = 0xBB ∧ convert .d24 .d12 0x123456 = 0x135 ∧
      convert .d24 .d12 0xABCDEF = 0xACE ∧ convert .d8 .d4 0x5A = 2 ∧ convert .d4 .d8 5 = 0x2F ∧ convert .d4 .d12 9 = 0xF0F ∧
      convert .d12 .d8 0x8C4 = 0xB2 := by decide

/-- The vectors of R233, V-PFC-7 to V-PFC-10. -/
theorem test_host_order :
    toHost .d4 1 = 8 ∧ toHost .d8 7 = 0xE0 ∧ toHost .d8 0x5A = 0x4D ∧ toHost .d12 0xABC = 0xCBA ∧ toHost .d24 0x123456 = 0x563412 ∧
      toHost .d4 6 = 6 ∧ fromHost .d8 0xE0 = 7 ∧ fromHost .d4 8 = 1 ∧ toHost .d12 0x123 = 0x321 := by decide

/-- V-PFC-2, V-PFC-11 to V-PFC-15. -/
theorem test_rep_swap_cell :
    (List.range 8).map (fun v => rep v 3) = [0x00, 0x24, 0x49, 0x6D, 0x92, 0xB6, 0xDB, 0xFF] ∧ swap32 0x11223344 = 0x44332211 ∧
      cellToHost (withRegs [(.drawmode1, 0x1F)]) 0xAB123456 = 0x00563412 ∧
      cellToHost (withRegs [(.drawmode1, 0x17)]) 0x123456 = 0x44 ∧ cellToHost (withRegs [(.drawmode1, 0x03)]) 0xABCDEF = 0xF ∧
      cellToHost (withRegs [(.drawmode1, 0x0D)]) 0xABCDEF = 0xEF := by decide

/-! ## Sub-devices (95_test_vectors.md 2.6, 2.7, 2.9) -/

/-- `base` with the given DCBDATA0. -/
def dcb (v : W32) : State := withRegs [(.dcbdata0, v)]

/-- V-PMR-1: only bit 0 of CONFIG is kept. -/
theorem test_pmr_config :
    leaves .dcbwPmr0Config (dcb 0xFF) (fun t => t.pmr0.config = 1 && t.pmr1.config = 0) = true := by decide

/-- V-PMR-2: the paired MODE_DATA write, at the last index. -/
theorem test_pmr_mode_data :
    leaves .dcbwPmr01ModeData
      { dcb 0x0D with pmr0 := { Pmr.reset with modeIndex := 31 }, pmr1 := { Pmr.reset with modeIndex := 31 } }
      (fun t => t.pmr0 = { Pmr.reset with mode := [(31, 0x0D)] } && t.pmr1 = { Pmr.reset with mode := [(31, 0x0D)] }) = true := by
  decide

/-- V-PMR-3 and V-PMR-6. -/
theorem test_pmr_five_bits :
    leaves .dcbwPmr01CursorCmap (dcb 0x3F) (fun t => t.pmr0.cursorCmap = 31 && t.pmr1.cursorCmap = 31) = true ∧
      leaves .dcbwPmr0ModeIndex (dcb 40) (fun t => t.pmr0.modeIndex = 8 && t.pmr1.modeIndex = 0) = true := by decide

/-- V-PMR-4: a reserved select reads 0 and arms no timeout. -/
theorem test_pmr_reserved :
    leaves .dcbrPmr0Reserved7 (dcb 5) (fun t => t.ce.dcbdata0 = 0 && !t.dcbPending) = true := by decide

/-- The table of R259: the direct modes. -/
theorem test_resolve_direct :
    let s := fun (e : W8) => { base with pmr0 := { Pmr.reset with mode := [(7, e)] } }
    resolve (s 0) 7 5 = 0xFFAA00 ∧ resolve (s 1) 7 0x5A = 0x496D55 ∧ resolve (s 2) 7 0xABC = 0xCCBBAA ∧
      resolve (s 3) 7 0xABCDEF = 0xEFCDAB ∧ resolve (s 3) 7 0x123456 = 0x563412 := by decide

/-- The table of R259: the colormap modes, bank 1 and bank 31, and BPP8. -/
theorem test_resolve_cmap :
    let s := fun (e c : W8) => { base with
      pmr0 := { Pmr.reset with config := c, mode := [(7, e)] },
      clut0 := { Clut.reset with table := [(15, 1), (261, 2), (271, 3), (308, 4), (7954, 5)] } }
    resolve (s 0x04 0) 7 0x1F = 1 ∧ resolve (s 0x0C 0) 7 0x1FF = 3 ∧ resolve (s 0x0D 0) 7 0x12345605 = 2 ∧
      resolve (s 0x0F 1) 7 0x1234 = 4 ∧ resolve (s 0xFF 0) 7 0x12 = 5 := by decide

/-- V-CLUT-1: the index wraps at the capacity. -/
theorem test_clut_index : leaves .dcbwClut0Index (dcb 0x2005) (fun t => t.clut0.index = 5 && t.clut1.index = 0) = true := by decide

/-- V-CLUT-2 and V-CLUT-3: the last slot wraps; bits 31:24 are dropped. -/
theorem test_clut_data :
    leaves .dcbwClut0Data { dcb 1 with clut0 := { Clut.reset with index := 8191 } }
        (fun t => t.clut0 = { index := 0, table := [(8191, 1)] }) = true ∧
      leaves .dcbwClut0Data { dcb 0xFF123456 with clut0 := { Clut.reset with index := 9 } }
        (fun t => t.clut0 = { index := 10, table := [(9, 0x123456)] }) = true := by decide

/-- V-CLUT-4: a read does not advance. -/
theorem test_clut_read :
    leaves .dcbrClut0Data { base with clut0 := { index := 10, table := [(10, 0xABCDEF)] } }
      (fun t => t.ce.dcbdata0 = 0x00ABCDEF && t.clut0.index = 10) = true := by decide

/-- V-CLUT-6: each instance stores at its own index. -/
theorem test_clut_paired :
    leaves .dcbwClut01Data { dcb 0x22 with clut0 := { Clut.reset with index := 3 }, clut1 := { Clut.reset with index := 7 } }
      (fun t => t.clut0 = { index := 4, table := [(3, 0x22)] } && t.clut1 = { index := 8, table := [(7, 0x22)] }) = true := by
  decide

/-- V-DCB-1: the transaction that DCBMODE selects, on the value just written. -/
theorem test_dcbdata0_write :
    leaves (.wDcbdata0 0x00FF0000 0xFFFFFFFF) (withRegs [(.dcbmode, 0x21)])
      (fun t => t.clut0 = { index := 1, table := [(0, 0xFF0000)] } && t.ce.dcbdata0 = 0x00FF0000) = true := by decide

/-- V-DCB-3: no component; DCBDATA0 keeps its value. -/
theorem test_dcbdata0_timeout :
    leaves .rDcbdata0 (withRegs [(.dcbmode, 0xA0), (.dcbdata0, 0x12345678)])
      (fun t => t.out = [.data32 0x12345678] && t.dcbPending) = true := by decide

/-- V-DCB-4 and V-DCB-5: a DCBMODE write cancels nothing, a transaction does. -/
theorem test_dcb_cancel :
    leaves (.wDcbmode 0x20 0xFFFFFFFF) { base with dcbPending := true } (fun t => t.dcbPending) = true ∧
      leaves (.wDcbdata0 5 0xFFFFFFFF) { withRegs [(.dcbmode, 0x20)] with dcbPending := true }
        (fun t => !t.dcbPending && t.clut0.index = 5) = true := by decide

/-- V-DCB-6: each latch is a file of its own. -/
theorem test_latches :
    leaves (.dcbwLatch0R 3) (dcb 0xDEADBEEF)
      (fun t => leaves (.dcbrLatch0R 3) t (fun u => u.ce.dcbdata0 = 0xDEADBEEF) &&
        leaves (.dcbrLatch1R 3) t (fun u => u.ce.dcbdata0 = 0)) = true := by decide

/-- V-DCB-7: DCBDATA1 runs no transaction. -/
theorem test_dcbdata1 :
    leaves (.wDcbdata1 0x55 0xFFFFFFFF) (withRegs [(.dcbmode, 0xA0)]) (fun t => t.ce.dcbdata1 = 0x55 && !t.dcbPending) = true := by
  decide

/-- S9, steps 4 to 6: the timeout event sets the sticky bit and keeps DCBDATA0. -/
theorem test_timeout_event :
    leaves .dcbTimeout { dcb 0x12345678 with dcbPending := true }
      (fun t => statusWord t = 8 && t.ce.dcbdata0 = 0x12345678 && t.out = []) = true := by decide

/-! ## Timing and cursor (47_timing_cursor.md R302, R310, R317, R328, 95_test_vectors.md 2.8) -/

/-- The tables of R302, with the walk's bound lowered. -/
def timing : State :=
  { base with
    par := { par16 with tramWords := 1024 },
    tg := { Tg.reset with vtFramePtr := 0x100, vtLinePtr := 0x200 },
    tram := [(0x100, 10), (0x101, 0), (0x102, 480), (0x103, 0x8000), (0x104, 5), (0x105, 0), (0x106, 0), (0x107, 0),
             (0x200, 16), (0x201, 0), (0x202, 640), (0x203, 0x8000), (0x204, 8), (0x205, 0), (0x206, 0), (0x207, 0)] }

/-- R302: the window, with one TIMING_CHANGED edge before the answer. -/
theorem test_readout :
    leaves .readoutX1 timing (fun t => t.tg.win = { x0 := 16, y0 := 10, x1 := 655, y1 := 489 } &&
      t.out = [.timingChanged, .readout 655] && leaves .readoutY0 t (fun u => u.out = t.out ++ [.readout 10])) = true := by decide

/-- V-TG-2 and V-TG-3: no visible run; an invisible run inside the window. -/
theorem test_decode_windows :
    decodeWindow { base with par := { par16 with tramWords := 64 }, tram := [(0, 10), (1, 0), (2, 0), (3, 0)] } = Window.empty ∧
      decodeWindow { base with
        par := { par16 with tramWords := 64 }, tg := { Tg.reset with vtFramePtr := 0x10, vtLinePtr := 0x20 },
        tram := [(0x10, 5), (0x11, 0x8000), (0x12, 3), (0x13, 0), (0x14, 4), (0x15, 0x8001), (0x16, 0), (0x17, 0),
                 (0x20, 8), (0x21, 0x8000), (0x22, 0), (0x23, 0)] } = { x0 := 0, y0 := 0, x1 := 7, y1 := 11 } := by decide

/-- V-TG-7: RAM_DATA at the last word wraps RAM_ADDR. -/
theorem test_ram_data_wrap :
    leaves .dcbwTgRamData { dcb 0xAAAA with tg := { Tg.reset with ramAddr := 0x7FFF } }
      (fun t => t.tram = [(0x7FFF, 0xAAAA)] && t.tg.ramAddr = 0) = true := by decide

/-- V-TG-8: RAM_ADDR beyond the memory. -/
theorem test_ram_data_mod :
    leaves .dcbwTgRamData { dcb 0x1234 with tg := { Tg.reset with ramAddr := 0x9000 } }
      (fun t => t.tram = [(0x1000, 0x1234)] && t.tg.ramAddr = 0x1001) = true := by decide

/-- V-TG-9 and V-TG-10: 16-bit registers; the reserved bits of DISPLAY_CTRL. -/
theorem test_tg_registers :
    leaves .dcbwTgCursorX (dcb 0x1234FFF0) (fun t => t.tg.cursorX = 0xFFF0 && t.cursorPosX = -16) = true ∧
      leaves .dcbwTgDisplayCtrl (dcb 0xFFFF) (fun t => t.tg.displayCtrl = 0x1F && t.tg.dirty) = true := by decide

/-- The cursor of R317, in glyph mode. -/
def glyph : State :=
  { base with
    tg := { Tg.reset with displayCtrl := 1, cursorX := 100, cursorY := 50, cursorGlyphPtr := 0x300 },
    tram := [(0x300, 0x8000), (0x301, 1), (0x302, 0)],
    clut0 := { Clut.reset with table := [(1, 0x00FF00)] } }

/-- R317: glyph mode. -/
theorem test_cursor_glyph :
    cursorAt glyph 100 50 = some 0x00FF00 ∧ cursorAt glyph 131 50 = some 0x00FF00 ∧ cursorAt glyph 101 50 = none ∧
      cursorAt glyph 100 51 = none ∧ cursorAt glyph 99 50 = none ∧ cursorAt glyph 132 50 = none := by decide

/-- R317: crosshair mode. -/
theorem test_cursor_cross :
    let s := { glyph with tg := { glyph.tg with displayCtrl := 3 } }
    (crossHit s 100 34 && crossHit s 84 50 && crossHit s 115 50 && !crossHit s 116 50 && !crossHit s 100 66 &&
      !crossHit s 90 40) = true := by decide

/-- V-TG-13: a 64 x 64 glyph. -/
theorem test_cursor_64 :
    let s := { base with
      tg := { Tg.reset with displayCtrl := 5, cursorGlyphPtr := 0x100 }, tram := [(0x10B, 1), (0x10F, 0)] }
    (glyphHit s 63 2 && !glyphHit s 63 3 && !glyphHit s 64 2) = true := by decide

/-- The tables of R310. -/
def dids : State :=
  { base with
    par := { par16 with tramWords := 2048 },
    tg := { Tg.reset with displayCtrl := 8, didFramePtr := 0x400, dirty := false },
    tram := [(0x403, 0x500), (0x500, 0x0002), (0x501, 0x0C85), (0x502, 0xFFFF)] }

/-- R310: the entries of the line, then NONE. -/
theorem test_did_entries :
    leaves (.beginDidLine 3) dids (fun t => t.out = [.didEntry (some (0, 2))] && leaves .nextDidLineEntry t (fun u =>
      u.out = t.out ++ [.didEntry (some (100, 5))] && leaves .nextDidLineEntry u (fun v =>
        v.out = u.out ++ [.didEntry none] && v.tg.lcEnd))) = true := by decide

/-- R310: did_for, and DID_EN = 0. -/
theorem test_did_for :
    didAt dids 3 99 = 2 ∧ didAt dids 3 100 = 5 ∧ didAt { dids with tg := { dids.tg with displayCtrl := 0 } } 3 100 = 0 := by decide

/-- V-TG-17 and V-TG-18. -/
theorem test_vint :
    let s := fun (c : W16) => { base with tg := { Tg.reset with displayCtrl := c, vintLine := 200, dirty := false } }
    leaves (.beginDidLine 199) (s 0x10) (fun t => !t.vint) = true ∧
      leaves (.beginDidLine 200) (s 0x10) (fun t => t.vint && t.out = [.vint, .didEntry none]) = true ∧
      leaves (.beginDidLine 200) (s 0) (fun t => !t.vint && t.out = [.didEntry none]) = true := by decide

/-- R306 beyond scanline 65535 (log 23): NONE with DID_EN clear, and a next state whatever the line pointer is with DID_EN set. -/
theorem test_begin_did_line_beyond :
    leaves (.beginDidLine 65536) base (fun t => t.out = [.timingChanged, .didEntry none]) = true ∧
      ∃ t, exec (.beginDidLine 65536) dids = .next t := ⟨by decide, _, rfl⟩

/-- R328, the 640 x 480 window decoded: the primary plane, the pop-up plane, outside the window. -/
theorem test_display_pixel :
    let s := fun (p : W32) => { timing with
      tg := { timing.tg with dirty := false, win := { x0 := 16, y0 := 10, x1 := 655, y1 := 489 } },
      pmr0 := { Pmr.reset with popupCmap := 3, mode := [(0, 3)] },
      clut0 := { Clut.reset with table := [(770, 0xABCDEF)] },
      planes := { Planes.reset with primary := [(85, 0x00FF0000)], popup := [(85, p)] } }
    leaves (.displayPixel 5 5) (s 0) (fun t => t.out = [.pixel 0x0000FF]) = true ∧
      leaves (.displayPixel 5 5) (s 2) (fun t => t.out = [.pixel 0xABCDEF]) = true ∧
      leaves (.displayPixel 640 0) (s 0) (fun t => t.out = [.pixel 0]) = true := by decide

/-- The queries of the PMR and of the CLUT (R253, R255, R257, R280). -/
theorem test_pmr_queries :
    let s := { base with
      par := { par16 with clutEntries := 2 }, clut1 := { Clut.reset with table := [(0, 5), (1, 6)] },
      pmr0 := { config := 1, cursorCmap := 9, popupCmap := 8, modeIndex := 0, mode := [(2, 0x0D)] } }
    (leaves .is8bpp s (fun t => t.out = [.flag true]) && leaves .cursorCmap s (fun t => t.out = [.bank 9]) &&
      leaves .popupCmap s (fun t => t.out = [.bank 8]) && leaves (.modeEntry 34) s (fun t => t.out = [.modeEntry 1 true 1]) &&
      leaves (.paletteBase 1) s (fun t => t.out = [.palette [5, 6]])) = true := by decide

/-! ## Reset (95_test_vectors.md 2.11) -/

/-- V-RST-4: a soft reset keeps the tables. -/
theorem test_soft_reset :
    let s := { base with
      clut0 := { index := 9, table := [(5, 0x123456)] }, pmr0 := { Pmr.reset with modeIndex := 3, mode := [(2, 0x0D)] } }
    leaves .softReset s (fun t => t.clut0 = { index := 0, table := [(5, 0x123456)] } &&
      t.pmr0 = { Pmr.reset with mode := [(2, 0x0D)] }) = true ∧
    leaves .hardReset s (fun t => t.clut0.table = [] && t.pmr0.mode = [] && t.clut0.index = 0) = true := by decide

/-- V-RST-2, V-RST-3, V-RST-7: STATUS is 0 after either reset. -/
theorem test_reset_status :
    let s := { base with vint := true, dcbtmo := true, dcbPending := true, xf := xfer3 .hostToFrame }
    leaves .softReset s (fun t => statusWord t = 0) = true ∧ leaves .hardReset s (fun t => statusWord t = 0) = true := by decide

/-! ## The step (logs 1, 2, 10) -/

/-- An invalid read answers 0 of its width; an invalid write changes nothing (R115). -/
theorem test_step_invalid :
    step { base with inbox := [.host 0x005C 0 none] } = .next { base with out := [.data32 0] } ∧
      step { base with inbox := [.host 0x1004 0 none] } = .next { base with out := [.data64 0] } ∧
      step { base with inbox := [.host 0x205C 5 none] } = .next base := by
  refine ⟨rfl, rfl, rfl⟩

/-- With nothing waiting an armed timeout fires. -/
theorem test_step_idle : (match step { base with dcbPending := true } with | .next t => statusWord t | _ => 0) = 8 := by decide

/-- Words of the opcode table: a host access, a DCB write, a command. -/
theorem test_table_words :
    decodeTableWord 16 0x2004 = some (.wDrawmode1 0 0xFFFFFFFF) ∧ decodeTableWord 16 0x121 = some .dcbwClut0Data ∧
      decodeTableWord 8 0x0B = some (.blockCopy false) ∧ decodeTableWord 16 0x205C = none := by decide

/-- The word withFetchWord places is the one the next step runs. -/
theorem test_fetch_word :
    (match step (base.withFetchWord 8 0x14) with | .next t => decide (t.xf.active && t.xf.dir = .frameToHost) | _ => false) = true := by
  decide

/-! ## Witnesses: concrete states and operands that meet the hypotheses of each obligation together, clause by clause, at the
boundary values of the ranges -/

/-- DecodeEncode: operands at their ends, a scanline beyond the line table among them. -/
theorem witness_DecodeEncode :
    (Instr.beginDidLine 65536).wf = true ∧ (Instr.paletteBase 1).wf = true ∧ (Instr.w64Hostdata 1 0).wf = true ∧
      (Instr.wWrmask 0xFFFFFFFF 0).wf = true := by decide

/-- InvalidAccess: the first key of the schedule, valid at the last offsets of either width, invalid beside them, at the hole and
at a misaligned offset. -/
theorem witness_InvalidAccess :
    let valid := fun (key : BitVec 14) =>
      let roff := (key.extractLsb' 0 11).toNat
      if key.getLsbD 12 then roff = 0x0B0 else roff % 4 = 0 ∧ roff ≤ 0x0AC ∧ roff ≠ 0x05C
    valid 0b10000010101100 ∧ valid 0b11100010110000 ∧ ¬ valid 0b10000010110000 ∧ ¬ valid 0b01000010101100 ∧
      ¬ valid 0b00000001011100 ∧ ¬ valid 0b00000000000001 ∧
      { base with inbox := [Request.host 0b00000001011100 0 none] }.inbox = Request.host 0b00000001011100 0 none :: [] := by
  decide

/-- DecodedWellFormed: a request the decoder reads. -/
theorem witness_DecodedWellFormed : decode (.query (.beginDidLine 65535)) = .ok (.beginDidLine 65535) := by decide

/-- StepRunsDecoded: a schedule whose head decodes to a well-formed instruction; an empty one, with an access pending and with
none; the first instance that is refused, at the head of a schedule, and the last that is not. -/
theorem witness_StepRunsDecoded :
    (let s : State := { base with inbox := [.host 0x2008 0x55 (some 0xFF), .timeout] }
     s.inbox = .host 0x2008 0x55 (some 0xFF) :: [.timeout] ∧
       decode (.host 0x2008 0x55 (some 0xFF)) = .ok (.wWrmask 0x55 0xFF) ∧ (Instr.wWrmask 0x55 0xFF).wf = true) ∧
    (let s : State := { base with dcbPending := true }
     s.inbox = [] ∧ s.dcbPending = true) ∧
    (base.inbox = [] ∧ base.dcbPending = false) ∧
    { base with inbox := [.query (.paletteBase 2)] }.inbox = .query (.paletteBase 2) :: [] ∧ 2 ≤ 2 ∧
    { base with inbox := [.query (.paletteBase 1)] }.inbox = .query (.paletteBase 1) :: [] ∧
    ∀ c, Request.query (.paletteBase 1) = .query (.paletteBase c) → c < 2 := by
  refine ⟨by decide, by decide, by decide, by decide, by decide, by decide, fun c h => ?_⟩
  cases h
  decide

/-- EveryInstructionCompletes: well-formed instructions of several families. -/
theorem witness_EveryInstructionCompletes :
    ([.wWrmask 0 0, .blockCopy true, .dcbwTgRamData, .displayPixel (-1) 0, .dcbTimeout, .softReset] : List Instr).all (fun i => i.wf)
      = true := by decide

/-- PlainRegisterWrite: a plain register, DCBMODE among them, and a mask with one bit. -/
theorem witness_PlainRegisterWrite :
    Reg.wrmask ∈ plainRegs ∧ Reg.dcbmode ∈ plainRegs ∧ (0xFFFFFFFF00000001 : W64).setWidth 32 ≠ (0 : W32) := by decide

/-- DrawmodeWrite, CoordinateWrite, PackedViewWrite, DcbData0Access and HostConsume: masks that are not 0; a coordinate
register. -/
theorem witness_live_masks :
    (0x80000000 : W32) ≠ 0 ∧ (0x0000FFFF : W32) ≠ 0 ∧ (0x8000000000000000 : W64) ≠ 0 ∧ Reg.xstart ∈ coordRegs ∧
      (0x80000000 : W64).setWidth 32 ≠ (0 : W32) := by decide

/-- ReadOnlyWrite: a read-only register and a live mask. -/
theorem witness_ReadOnlyWrite : Reg.curxy ∈ readOnlyRegs ∧ (1 : W64).setWidth 32 ≠ (0 : W32) := by decide

/-- MaskZeroWrite and GoAliasWrite: a 32-bit register ignores the mask's high half, HOSTDATA does not. -/
theorem witness_maskLive :
    maskLive (.ce .wrmask) 0xFFFFFFFF00000000 = false ∧ maskLive .hostdata 0 = false ∧ maskLive .hostdata 0xFFFFFFFF00000000 = true ∧
      maskLive .status 1 = true := by decide

/-- RegisterReads: a register other than DCBDATA0. -/
theorem witness_RegisterReads : Reg.dcbdata1 ≠ Reg.dcbdata0 := by decide

/-- HostdataStoreOnly: no transfer, and a transfer in the other direction, for either clause. -/
theorem witness_HostdataStoreOnly :
    ¬ (base.xf.active = true ∧ base.xf.dir = .hostToFrame) ∧
      (let s := { base with xf := xfer3 .frameToHost }
       ¬ (s.xf.active = true ∧ s.xf.dir = .hostToFrame)) ∧
      let s := { base with xf := xfer3 .hostToFrame }
      ¬ (s.xf.active = true ∧ s.xf.dir = .frameToHost) := by decide

/-- HostConsume: a transfer at its first and at its last pixel, unpacked and packed. -/
theorem witness_HostConsume :
    let s := { withRegs [(.drawmode1, 0x265)] with xf := xfer3 .hostToFrame }
    let u := { withRegs [(.drawmode1, 0x8265)] with xf := { xfer3 .hostToFrame with hx := 2 } }
    (0xFF : W64) ≠ 0 ∧ s.xf.active = true ∧ s.xf.dir = .hostToFrame ∧ s.wpack = false ∧
      u.xf.active = true ∧ u.xf.dir = .hostToFrame ∧ u.wpack = true := by decide

/-- HostProduce: unpacked, packed with a second pixel, packed at the last pixel. -/
theorem witness_HostProduce :
    let s := { withRegs [(.drawmode1, 0x265)] with xf := xfer3 .frameToHost }
    let u := { withRegs [(.drawmode1, 0x10265)] with xf := xfer3 .frameToHost }
    let w := { withRegs [(.drawmode1, 0x10265)] with xf := { xfer3 .frameToHost with hx := 2 } }
    (s.xf.active = true ∧ s.xf.dir = .frameToHost ∧ s.rpack = false) ∧
      (u.xf.active = true ∧ u.xf.dir = .frameToHost ∧ u.rpack = true ∧ u.pixelMovedOut.xf.active = true) ∧
      w.xf.active = true ∧ w.xf.dir = .frameToHost ∧ w.rpack = true ∧ w.pixelMovedOut.xf.active = false := by decide

/-- TransferVisitsRectangle: the first and the last position of a 3 x 1 rectangle. -/
theorem witness_TransferVisitsRectangle :
    let s := withRegs [(.xend, 0x00020000)]
    0 < ((s.x1 - s.x0).natAbs + 1) * ((s.y1 - s.y0).natAbs + 1) ∧
      2 < ((s.x1 - s.x0).natAbs + 1) * ((s.y1 - s.y0).natAbs + 1) := by decide

/-- CommandFrame: keys that are not LINE, not HOST. -/
theorem witness_CommandFrame : (0b11100 : BitVec 5).extractLsb' 0 3 ≠ 2#3 ∧ (0b00010 : BitVec 5).extractLsb' 0 3 ≠ 4#3 := by decide

/-- PixelStore: each value of COLORSRC, the shaded one in RGB and in CI mode. -/
theorem witness_PixelStore :
    let code := fun (v : W32) => (withRegs [(.drawmode0, v)]).ce.drawmode0.extractLsb' 9 2
    code 0 = 0 ∧ code 0x600 = 3 ∧ code 0x200 = 1 ∧ code 0x400 = 2 ∧
      (let s := withRegs [(.drawmode0, 0x200), (.drawmode1, 0x10)]
       s.ce.drawmode0.extractLsb' 9 2 = 1 ∧ s.ce.drawmode1.getLsbD 4 = true) ∧
      let s := withRegs [(.drawmode0, 0x200), (.drawmode1, 0)]
      s.ce.drawmode0.extractLsb' 9 2 = 1 ∧ s.ce.drawmode1.getLsbD 4 = false := by decide

/-- PlotCells: a stored cell at the corner of the plane; off the clip window, off the plane, off the pattern, in a plane whose
PLANEMASK bit is clear. -/
theorem witness_PlotCells :
    let s := { withRegs [(.drawmode0, 0x1020), (.clipmin, 0x00020000), (.clipmax, 0x7FFF7FFF), (.stipx0, 0x80008000), (.stipy0, 0x8000)]
      with par := par16 }
    let high := fun (v : W32) => (v.extractLsb' 16 16).toInt
    let low := fun (v : W32) => (v.extractLsb' 0 16).toInt
    let inClip := fun (x y : Int) => high s.ce.clipmin ≤ x ∧ x ≤ high s.ce.clipmax ∧ low s.ce.clipmin ≤ y ∧ y ≤ low s.ce.clipmax
    let inPlane := fun (x y : Int) => 0 ≤ x ∧ x < s.par.fbW ∧ 0 ≤ y ∧ y < s.par.fbH
    let row := (s.ce.drawmode0.extractLsb' 13 3).toNat
    let rowX := [s.ce.stipx0, s.ce.stipx1, s.ce.stipx2, s.ce.stipx3, s.ce.stipx4].getD row 0
    let rowY := [s.ce.stipy0, s.ce.stipy1, s.ce.stipy2, s.ce.stipy3, s.ce.stipy4].getD row 0
    let onPattern := fun (x y : Int) => s.ce.drawmode0.getLsbD 12 = false ∨ 5 ≤ row ∨
      (rowX.getLsbD (x % 32).toNat = true ∧ rowY.getLsbD (y % 32).toNat = true)
    (inClip 15 15 ∧ inPlane 15 15 ∧ onPattern 15 15 ∧ s.ce.drawmode0.getLsbD (5 + PlaneId.primary.num) = true) ∧
      ¬ inClip 1 15 ∧ ¬ inPlane 16 15 ∧ ¬ onPattern 14 15 ∧ ¬ s.ce.drawmode0.getLsbD (5 + PlaneId.cid.num) = true := by decide

/-- StoreBits: the last bit below db(DEPTH), with its mask bit, and the first beyond. -/
theorem witness_StoreBits :
    let s := withRegs [(.drawmode1, 0x263)]
    (23 < s.depth.db ∧ s.ce.wrmask.getLsbD 23 = true) ∧ ¬ 24 < s.depth.db ∧ 31 < 32 := by decide

/-- LogicOpBits: the last bit. -/
theorem witness_LogicOpBits : 31 < 32 := by decide

/-- BlendOneZero: the reset factors with a source of all ones at 24 bits; BLEND set in RGB mode, and in CI mode. -/
theorem witness_BlendOneZero :
    (let s := withRegs [(.drawmode1, 0x203)]
     (s.ce.drawmode1.extractLsb' 9 3).toNat = 1 ∧ (s.ce.drawmode1.extractLsb' 12 3).toNat = 0 ∧
       (0xFFFFFF : W32).toNat < 2 ^ s.depth.db) ∧
    (let s := withRegs [(.drawmode0, 0x10000), (.drawmode1, 0x10)]
     s.ce.drawmode0.getLsbD 16 = true ∧ s.ce.drawmode1.getLsbD 4 = true) ∧
    let s := withRegs [(.drawmode0, 0x10000), (.drawmode1, 0)]
    ¬ (s.ce.drawmode0.getLsbD 16 = true ∧ s.ce.drawmode1.getLsbD 4 = true) := by decide

/-- LinePositions: the ends of the coordinate range, and a line with two steps. -/
theorem witness_LinePositions :
    (coordinateOk (-32768) ∧ coordinateOk 32767) ∧ (0 < (lineSetup 0 0 2 1).major ∧ 2 ≤ (lineSetup 0 0 2 1).major) := by
  unfold coordinateOk; decide

/-- LineDraws: a drawn position, and a cell that no position is. -/
theorem witness_LineDraws :
    let s := withRegs [(.xend, 0x00020000)]
    let l := lineSetup s.x0 s.y0 s.x1 s.y1
    1 < l.visits s.endpt ∧ ∀ k, k < l.visits s.endpt → ¬ ((0 : Int) = l.posX k ∧ (5 : Int) = l.posY k) := by decide

/-- LineZeroLength. -/
theorem witness_LineZeroLength : base.x1 = base.x0 ∧ base.y1 = base.y0 := by decide

/-- BlockFillDraws: the last position of a 2 x 1 rectangle, and a cell outside it. -/
theorem witness_BlockFillDraws :
    let s := withRegs [(.xend, 0x00010000)]
    1 < (s.x1 - s.x0).natAbs + 1 ∧ 0 < (s.y1 - s.y0).natAbs + 1 ∧ ¬ (within s.x0 s.x1 2 ∧ within s.y0 s.y1 0) := by
  unfold within; decide

/-- BlockCopyCopies: a copy of one cell to the cell beside it. -/
theorem witness_BlockCopyCopies :
    let s := withRegs [(.xymove, 0x00010000)]
    (∀ u v, within s.x0 s.x1 u → within s.y0 s.y1 v →
      ¬ (within s.x0 s.x1 (u - s.moveX) ∧ within s.y0 s.y1 (v - s.moveY))) ∧
    within s.x0 s.x1 0 ∧ within s.y0 s.y1 0 ∧ ¬ (within s.x0 s.x1 (0 - s.moveX) ∧ within s.y0 s.y1 (0 - s.moveY)) := by
  have hx0 : (withRegs [(.xymove, 0x00010000)]).x0 = 0 := by decide
  have hx1 : (withRegs [(.xymove, 0x00010000)]).x1 = 0 := by decide
  have hy0 : (withRegs [(.xymove, 0x00010000)]).y0 = 0 := by decide
  have hy1 : (withRegs [(.xymove, 0x00010000)]).y1 = 0 := by decide
  have hmx : (withRegs [(.xymove, 0x00010000)]).moveX = 1 := by decide
  have hmy : (withRegs [(.xymove, 0x00010000)]).moveY = 0 := by decide
  simp only [hx0, hx1, hy0, hy1, hmx, hmy, within]
  refine ⟨fun u v => by omega, by omega, by omega, by omega⟩

/-- BlockCopyCopies: a copy of three cells onto two of themselves, at its last visit. -/
theorem witness_BlockCopyCopies_overlap :
    let s := withRegs [(.xend, 0x00020000), (.xymove, 0x00010000)]
    (within s.x0 s.x1 1 ∧ within s.x0 s.x1 (1 - s.moveX)) ∧
      2 < ((s.x1 - s.x0).natAbs + 1) * ((s.y1 - s.y0).natAbs + 1) := by
  unfold within
  decide

/-- ConversionRoundTrip and PixelFormatLaws: the greatest value of each depth and of each replicated field; RGB
and CI mode. -/
theorem witness_depth_values :
    (withRegs [(.drawmode1, 0x10)]).ce.drawmode1.getLsbD 4 = true ∧ (withRegs [(.drawmode1, 0)]).ce.drawmode1.getLsbD 4 = false ∧
    [Depth.d4, .d8, .d12, .d24].all (fun k => decide ((BitVec.ofNat 32 (2 ^ k.db - 1)).toNat < 2 ^ k.db)) = true ∧
      1 < 2 ∧ 3 < 4 ∧ 7 < 8 ∧ 15 < 16 ∧ 255 < 256 := by decide

/-- ClutAutoIncrement: a burst of two over the last slot; neither of its slots is overwritten, and a slot that it leaves alone. -/
theorem witness_ClutAutoIncrement :
    0 < base.par.clutEntries ∧
      (∀ j', j' < 2 → 1 < j' → ((8191 : W32).toNat + j') % base.par.clutEntries ≠ ((8191 : W32).toNat + 1) % base.par.clutEntries) ∧
      5 < base.par.clutEntries ∧ ∀ j, j < 2 → ((8191 : W32).toNat + j) % base.par.clutEntries ≠ 5 := by decide

/-- DcbTimeout: an access pending. -/
theorem witness_DcbTimeout : { base with dcbPending := true }.dcbPending = true := by decide

/-- TimingTableDecode: a terminated table with a visible run, its first and last the same; a terminated table with none; a walk
that reaches the bound; two tables with a visible run, a line table without one and a frame table without one. -/
theorem witness_TimingTableDecode :
    (let len := fun k => (tramRead timing ((0x200 : W16).toNat + 2 * k)).toNat
     let visible := fun k => (tramRead timing ((0x200 : W16).toNat + 2 * k + 1)).getLsbD 15
     3 ≤ timing.par.tramWords / 2 ∧ (∀ k, k < 3 → len k ≠ 0) ∧ len 3 = 0 ∧ visible 1 = true ∧
        (∀ k, k < 1 → visible k = false) ∧ ∀ k, k < 3 → 1 < k → visible k = false) ∧
    (let s := { timing with tram := [(0, 7), (1, 0), (2, 0)] }
     let len := fun k => (tramRead s ((0 : W16).toNat + 2 * k)).toNat
     (∀ k, k < 1 → len k ≠ 0) ∧ len 1 = 0 ∧ ∀ k, k < 1 → (tramRead s ((0 : W16).toNat + 2 * k + 1)).getLsbD 15 = false) ∧
    let s := { timing with par := { par16 with tramWords := 4 }, tram := [(0, 7), (1, 0x8000), (2, 1), (3, 0)] }
    ((∀ k, k < 2 → (tramRead s ((0 : W16).toNat + 2 * k)).toNat ≠ 0) ∧ 2 = s.par.tramWords / 2) ∧
    let ends := fun (frame line : W16) =>
      let u := { s with tram := [(0, 7), (1, 0x8000), (2, 0), (3, 0)], tg := { s.tg with vtFramePtr := frame, vtLinePtr := line } }
      (decodeAxis u u.tg.vtFramePtr, decodeAxis u u.tg.vtLinePtr)
    ends 0 0 = (some (0, 6), some (0, 6)) ∧ ends 0 2 = (some (0, 6), none) ∧ ends 2 0 = (none, some (0, 6)) := by decide

/-- DidLines: the last scanline of the line table and the first beyond it, DID_EN clear and set; a cursor at the end, at the terminator, at an entry. -/
theorem witness_DidLines :
    65535 ≤ 65535 ∧ 65535 < 65536 ∧ base.tg.displayCtrl.getLsbD 3 = false ∧ dids.tg.displayCtrl.getLsbD 3 = true ∧ base.tg.lcEnd = true ∧
      (let s := { dids with tg := { dids.tg with lc := 0x502, lcEnd := false } }
       s.tg.lcEnd = false ∧ tramRead s s.tg.lc = 0xFFFF) ∧
      let s := { dids with tg := { dids.tg with lc := 0x500, lcEnd := false } }
      s.tg.lcEnd = false ∧ tramRead s s.tg.lc ≠ 0xFFFF := by decide

/-- DidForLastEntry: DID_EN clear; the list of R310, two entries and a terminator, before its second entry, at it, and before a
list's first entry. -/
theorem witness_DidForLastEntry :
    let entry := fun k => tramRead dids (didListAddr dids 3 + k)
    base.tg.displayCtrl.getLsbD 3 = false ∧ dids.tg.displayCtrl.getLsbD 3 = true ∧ 2 ≤ dids.par.tramWords ∧
      (∀ k, k < 2 → entry k ≠ 0xFFFF) ∧ entry 2 = 0xFFFF ∧
      (∀ k, k < 2 → (-1 : Int) < ((entry k).extractLsb' 5 11).toNat) ∧
      ((((entry 0).extractLsb' 5 11).toNat : Int) ≤ 99 ∧
        ∀ j, j < 2 → 0 < j → (99 : Int) < ((entry j).extractLsb' 5 11).toNat) ∧
      ((((entry 1).extractLsb' 5 11).toNat : Int) ≤ 100 ∧
        ∀ j, j < 2 → 1 < j → (100 : Int) < ((entry j).extractLsb' 5 11).toNat) := by decide

/-- CursorPixel: disabled; glyph mode at the last column, at a set and a clear bit, and one beyond; crosshair mode at the last
column of its row, and off both lines. -/
theorem witness_CursorPixel :
    base.tg.displayCtrl.getLsbD 0 = false ∧
      (glyph.tg.displayCtrl.getLsbD 0 = true ∧ glyph.tg.displayCtrl.getLsbD 1 = false ∧ glyphHit glyph 131 50 = true ∧
        glyphHit glyph 101 50 = false ∧ ¬ ((132 : Int) < glyph.tg.cursorX.toInt + 32)) ∧
      let s := { glyph with tg := { glyph.tg with displayCtrl := 3 } }
      s.tg.displayCtrl.getLsbD 0 = true ∧ s.tg.displayCtrl.getLsbD 1 = true ∧
        ((115 : Int) < s.tg.cursorX.toInt + 16 ∧ s.tg.cursorX.toInt - 16 ≤ (115 : Int) ∧ (50 : Int) = s.tg.cursorY.toInt) ∧
        ¬ ((90 : Int) = s.tg.cursorX.toInt ∨ (40 : Int) = s.tg.cursorY.toInt) := by decide

/-- `timing` with its window decoded, and a cell in the pop-up plane. -/
def tuned : State :=
  { timing with
    tg := { timing.tg with dirty := false, win := { x0 := 16, y0 := 10, x1 := 655, y1 := 489 } },
    planes := { Planes.reset with primary := [(85, 5)], popup := [(85, 2), (86, 0)] } }

/-- DisplayPixel: the last position of the window and one beyond; a cursor; none, with a pop-up value and without; a mode entry
with CMAP and one without. -/
theorem witness_DisplayPixel :
    let w := tuned.currentWindow
    let g := { tuned with
      tg := { tuned.tg with displayCtrl := 3, cursorX := 5, cursorY := 5 }, clut0 := { Clut.reset with table := [(1, 7)] } }
    ((639 : Int) ≤ w.x1 - w.x0 ∧ (479 : Int) ≤ w.y1 - w.y0 ∧ ¬ (640 : Int) ≤ w.x1 - w.x0) ∧ cursorAt g 5 5 = some 7 ∧
      cursorAt tuned 5 5 = none ∧ planeRead tuned .popup 5 5 &&& 0x3 ≠ 0 ∧ planeRead tuned .popup 6 5 &&& 0x3 = 0 ∧
      let u := { tuned with pmr0 := { tuned.pmr0 with mode := [(0, 0x0D), (1, 0x03)] } }
      (modeTableEntry u .zero 0).getLsbD 2 = true ∧ (modeTableEntry u .zero 1).getLsbD 2 = false := by decide

/-- PmrAndClutQueries: an entry of the table. -/
theorem witness_PmrAndClutQueries : 8191 < base.par.clutEntries := by decide

/-- QueriesFrame: a query the decoder reads, begin_did_line at and beyond the last scanline and another. -/
theorem witness_QueriesFrame :
    decode (.query (.beginDidLine 65536)) = .ok (.beginDidLine 65536) ∧ decode (.query .is8bpp) = .ok .is8bpp ∧
      (∀ y, Query.is8bpp ≠ .beginDidLine y) ∧ ∀ y, 65535 < y → Query.beginDidLine 65535 ≠ .beginDidLine y := by
  refine ⟨by decide, by decide, fun y => nofun, fun y h e => ?_⟩
  cases e
  omega

/-- VintSources: a step that sets VINT, a step that clears it. -/
theorem witness_VintSources :
    (let s : State := { base with
        tg := { Tg.reset with displayCtrl := 0x10, vintLine := 200, dirty := false }, inbox := [.query (.beginDidLine 200)] }
     s.vint = false ∧ ∃ t, step s = .next t ∧ t.vint = true) ∧
    let s : State := { base with vint := true, inbox := [.host 0x20A0 0x10 none] }
    s.vint = true ∧ ∃ t, step s = .next t ∧ t.vint = false := by
  refine ⟨⟨rfl, _, rfl, by decide⟩, rfl, _, rfl, by decide⟩

/-- The state of `witness_StepKeepsInv`: a decoded window, cells in two planes, a transfer in progress, a PIXEL command next. -/
def busy : State := { tuned with xf := xfer3 .hostToFrame, inbox := [.command 1] }

/-- StepKeepsInv: a state other than the reset state satisfies the invariant and steps. -/
theorem witness_StepKeepsInv : busy.Inv ∧ ∃ t, step busy = .next t := by
  refine ⟨⟨by decide, ⟨fun p => by cases p <;> decide, fun c => by cases c <;> decide, fun i => by cases i <;> decide, by decide⟩,
    ⟨by decide, by decide, by decide, by decide, fun i => by cases i <;> decide, by decide⟩,
    ⟨fun c => by cases c <;> decide, by decide⟩, ?_, fun _ => by decide, by decide⟩, _, rfl⟩
  unfold Xfer.cursorInside coordinateOk within
  decide

end Sys2Proof.Tests
end

/-! # The step (00_scope.md R7, R8)

What one step is in each case of the schedule, and that the only request it refuses is a `palette_base` of no instance. -/

namespace Sys2Proof.Machine

/-! ## The step by what waits and what it decodes to -/

theorem step_of_inbox_nil {s : State} (hs : s.inbox = []) : step s = .next (dcbTimeout s.idle) := by
  simp only [step, hs]

theorem step_of_decode_ok {s : State} {r : Request} {rest : List Request} {i : Instr} (hs : s.inbox = r :: rest)
    (hd : decode r = .ok i) : step s = exec i (s.taking rest) := by
  simp only [step, hs, hd]

theorem step_of_decode_error {s : State} {r : Request} {rest : List Request} {e : DecodeError} (hs : s.inbox = r :: rest)
    (hd : decode r = .error e) : step s = rejected e (s.taking rest) := by
  simp only [step, hs, hd]

theorem dcbTimeout_of_pending {s : State} (hp : s.dcbPending = true) :
    dcbTimeout s = { s with dcbPending := false, dcbtmo := true } := by
  rw [dcbTimeout, if_pos hp]; rfl

theorem dcbTimeout_of_not_pending {s : State} (hp : s.dcbPending = false) : dcbTimeout s = s := by
  simp [dcbTimeout, hp]

/-! ## What the decoder rejects -/

/-- A `palette_base` is read for the two instances of R271 only (log 11). -/
theorem decode_paletteBase (c : Nat) :
    decode (.query (.paletteBase c)) = if c < 2 then .ok (.paletteBase c) else .error (.noSuchClut c) := by
  simp [decode, decodeQuery, clutInstanceOk]

/-- A host access is rejected as an invalid read or an invalid write, by no other name (R115). -/
theorem decodeHost_error {key : BitVec 14} {v : W64} {m : Option W64} {e : DecodeError}
    (hd : decodeHost key v m = .error e) : (∃ w8, e = .invalidRead w8) ∨ e = .invalidWrite := by
  unfold decodeHost at hd
  split at hd
  · split at hd <;> cases hd
    · exact .inr rfl
    · exact .inl ⟨_, rfl⟩
  · split at hd <;> cases hd

/-- The one query the decoder rejects (log 11). -/
theorem decodeQuery_error {q : Query} {e : DecodeError} (hd : decodeQuery q = .error e) :
    ∃ c, q = .paletteBase c ∧ 2 ≤ c := by
  cases q with
  | paletteBase c =>
    refine ⟨c, rfl, Nat.le_of_not_lt fun hc => ?_⟩
    have hok : decodeQuery (.paletteBase c) = .ok (.paletteBase c) := (decode_paletteBase c).trans (if_pos hc)
    rw [hok] at hd
    cases hd
  | _ => cases hd

/-- An invalid read and an invalid write have an answer: neither stops the machine (R115, log 12). -/
theorem rejected_of_invalid_access {e : DecodeError} (he : (∃ w8, e = .invalidRead w8) ∨ e = .invalidWrite) (s : State) :
    ∃ t, rejected e s = .next t := by
  obtain ⟨_ | _, rfl⟩ | rfl := he <;> exact ⟨_, rfl⟩

/-! ## Every instruction the decoder reads completes -/

theorem exec_of_decodeHost {key : BitVec 14} {v : W64} {m : Option W64} {i : Instr} (hd : decodeHost key v m = .ok i)
    (s : State) : ∃ t, exec i s = .next t := by
  unfold decodeHost at hd
  split at hd
  · split at hd <;> cases hd
  · split at hd <;> cases hd
    · exact ⟨_, exec_readInstr _ s⟩
    · exact ⟨_, exec_readAliasInstr _ s⟩
    · exact ⟨_, exec_writeInstr _ _ _ s⟩
    · exact ⟨_, exec_goInstr _ _ _ s⟩

theorem exec_of_decodeDcb (k : BitVec 9) (s : State) : ∃ t, exec (decodeDcb k) s = .next t := by
  obtain e | e := dcbKey_eq k <;> rw [e]
  · exact ⟨_, exec_dcbWrite _ _ s⟩
  · exact ⟨_, exec_dcbRead _ _ s⟩

theorem execPaletteBase_of_instance {c : Nat} (hc : c < 2) (s : State) : ∃ t, execPaletteBase c s = .next t :=
  match c, hc with
  | 0, _ => ⟨_, rfl⟩
  | 1, _ => ⟨_, rfl⟩

theorem exec_of_decodeQuery {q : Query} {i : Instr} (hd : decodeQuery q = .ok i) (s : State) : ∃ t, exec i s = .next t := by
  cases q with
  | paletteBase c =>
    have hd' := (decode_paletteBase c).symm.trans hd
    split at hd' <;> cases hd'
    exact execPaletteBase_of_instance ‹_› s
  | _ => cases hd; exact ⟨_, rfl⟩

/-- What the decoder reads, `exec` completes: no fault and no refusal, in any state (60_exceptions.md R351). -/
theorem exec_of_decode {r : Request} {i : Instr} (hd : decode r = .ok i) (s : State) : ∃ t, exec i s = .next t := by
  cases r with
  | host key v m => exact exec_of_decodeHost hd s
  | command k => cases hd; exact ⟨_, exec_decodeCommand k s⟩
  | dcb k => cases hd; exact exec_of_decodeDcb k s
  | query q => exact exec_of_decodeQuery hd s
  | timeout => cases hd; exact ⟨_, rfl⟩
  | hardReset => cases hd; exact ⟨_, rfl⟩
  | softReset => cases hd; exact ⟨_, rfl⟩

/-- What the decoder rejects is an invalid access or a `palette_base` of no instance. -/
theorem decode_error {r : Request} {e : DecodeError} (hd : decode r = .error e) :
    ((∃ w8, e = .invalidRead w8) ∨ e = .invalidWrite) ∨ ∃ c, r = .query (.paletteBase c) ∧ 2 ≤ c := by
  cases r with
  | host key v m => exact .inl (decodeHost_error hd)
  | query q =>
    obtain ⟨c, rfl, hc⟩ := decodeQuery_error hd
    exact .inr ⟨c, rfl, hc⟩
  | _ => cases hd

/-! ## What a step refuses -/

/-- A `palette_base` of an instance other than 0 and 1 is refused by its name (log 11). -/
theorem step_of_no_such_clut {s : State} {c : Nat} {rest : List Request} (hs : s.inbox = .query (.paletteBase c) :: rest)
    (hc : 2 ≤ c) : step s = .refused (.noSuchClut c) :=
  step_of_decode_error hs ((decode_paletteBase c).trans (if_neg (Nat.not_lt.mpr hc)))

/-- A step on any other request answers a next state. -/
theorem step_completes {s : State} {r : Request} {rest : List Request} (hs : s.inbox = r :: rest)
    (hr : ∀ c, r = .query (.paletteBase c) → c < 2) : ∃ t, step s = .next t := by
  cases hd : decode r with
  | ok i =>
    rw [step_of_decode_ok hs hd]
    exact exec_of_decode hd _
  | error e =>
    rw [step_of_decode_error hs hd]
    obtain he | ⟨c, hq, hc⟩ := decode_error hd
    · exact rejected_of_invalid_access he _
    · exact absurd (hr c hq) (Nat.not_lt.mpr hc)

/-- Settles O5, from the step's equations and the decoder's only rejected query. -/
theorem stepRunsDecoded : Obligations.StepRunsDecoded := by
  intro s
  refine ⟨fun r rest i hs hd _ => step_of_decode_ok hs hd, fun hs hp => ?_, fun hs hp => ?_,
    fun c rest hs hc => step_of_no_such_clut hs hc, fun r rest hs hr => step_completes hs hr⟩
  · rw [step_of_inbox_nil hs, dcbTimeout_of_pending (s := s.idle) hp]; rfl
  · rw [step_of_inbox_nil hs, dcbTimeout_of_not_pending (s := s.idle) hp]; rfl

end Sys2Proof.Machine

/-! # Decoding and encoding (30_encoding.md)

The decoder undoes the encoder on every well-formed instruction, the encoder writes every command key and DCB key back, and what
the decoder reads is well formed. -/

namespace Sys2Proof

open Sys2Proof.Machine

/-! ## What an encoded host write is read as -/

/-- A width-4 write carries value and mask in the low halves of its record, and the decoder takes the low halves (R81, log 9).
`hi` says which instruction a write of this register, with its GO bit clear or set, is. -/
theorem decode_encodeWrite {go : Bool} {r : HostReg} {i : W32 → W32 → Instr}
    (hi : (if go then goInstr r else writeInstr r) = fun v m => i (v.setWidth 32) (m.setWidth 32)) (v m : W32) :
    decode (encodeWrite go r v m) = .ok (i v m) := by
  have low (w : W32) : (w.setWidth 64).setWidth 32 = w := by simp
  have read := congrFun (congrFun hi (v.setWidth 64)) (m.setWidth 64)
  rw [low, low] at read
  rw [← read]
  refine (decodeHost_keyOf true go r _ _).trans ?_
  cases go <;> rfl

/-- A width-8 write's record is read with its value and mask whole (R81). -/
theorem decode_encodeWrite64 (go : Bool) (r : HostReg) (v m : W64) :
    decode (encodeWrite64 go r v m) = .ok (if go then goInstr r v m else writeInstr r v m) :=
  decodeHost_keyOf true go r v (some m)

/-- A property of every value of a field, number by number. -/
theorem bitVec_of_ofNat {w : Nat} {P : BitVec w → Prop} (h : ∀ n, n < 2 ^ w → P (BitVec.ofNat w n)) (k : BitVec w) : P k := by
  have hk := h k.toNat k.isLt
  rwa [BitVec.ofNat_toNat, BitVec.setWidth_eq] at hk

/-- Settles O1, by the operands a row has: any value and mask of a host write (R81), the bits a command row leaves free (R90),
the free bits of a DCB key (R91), the `palette_base` number that well-formedness bounds (R271). The remaining rows have no
operand or are queries, whose operands the request carries unencoded (R98), and the decoder's answer is an evaluation. -/
theorem decodeEncode : Obligations.DecodeEncode := by
  intro i hi
  cases i with
  | wDrawmode0 v m | gDrawmode0 v m | wDrawmode1 v m | gDrawmode1 v m | wWrmask v m | gWrmask v m | wColori v m | gColori v m
  | wXstart v m | gXstart v m | wYstart v m | gYstart v m | wXend v m | gXend v m | wYend v m | gYend v m | wXystarti v m
  | gXystarti v m | wXyendi v m | gXyendi v m | wXymove v m | gXymove v m | wClipmin v m | gClipmin v m | wClipmax v m
  | gClipmax v m | wRed v m | gRed v m | wGreen v m | gGreen v m | wBlue v m | gBlue v m | wAlpha v m | gAlpha v m
  | wZacc v m | gZacc v m | wSlopeR v m | gSlopeR v m | wSlopeG v m | gSlopeG v m | wSlopeB v m | gSlopeB v m | wSlopeA v m
  | gSlopeA v m | wSlopeZ v m | gSlopeZ v m | wStipx0 v m | gStipx0 v m | wStipx1 v m | gStipx1 v m | wStipx2 v m
  | gStipx2 v m | wStipx3 v m | gStipx3 v m | wStipx4 v m | gStipx4 v m | wStipy0 v m | gStipy0 v m | wStipy1 v m
  | gStipy1 v m | wStipy2 v m | gStipy2 v m | wStipy3 v m | gStipy3 v m | wStipy4 v m | gStipy4 v m | wBresErr v m
  | gBresErr v m | wBresInc1 v m | gBresInc1 v m | wBresInc2 v m | gBresInc2 v m | wBresCount v m | gBresCount v m
  | wBresOctant v m | gBresOctant v m | wCurxy v m | gCurxy v m | wStatus v m | gStatus v m | wDcbmode v m | gDcbmode v m
  | wDcbdata0 v m | gDcbdata0 v m | wDcbdata1 v m | gDcbdata1 v m => exact decode_encodeWrite rfl v m
  | w64Hostdata v m => exact decode_encodeWrite64 false .hostdata v m
  | g64Hostdata v m => exact decode_encodeWrite64 true .hostdata v m
  | nop copy dir | pixel copy dir | line copy dir | reservedCmd5 copy dir | reservedCmd6 copy dir | reservedCmd7 copy dir =>
    cases copy <;> cases dir <;> rfl
  | blockFill dir | blockCopy dir => cases dir <;> rfl
  | hostToFrame copy | frameToHost copy => cases copy <;> rfl
  | dcbwTgReserved12to15 k | dcbwClut01Reserved4to7 k | dcbwClut01Reserved8to15 k | dcbwClut0Reserved4to7 k
  | dcbwClut0Reserved8to15 k | dcbwClut1Reserved4to7 k | dcbwClut1Reserved8to15 k | dcbwPmr01Reserved8to15 k
  | dcbwPmr0Reserved8to15 k | dcbwPmr1Reserved8to15 k | dcbwAnalogR k | dcbwLatch0R k | dcbwLatch1R k | dcbwNone10to11 k
  | dcbwNone12to15 k | dcbrTgReserved12to15 k | dcbrClut01Reserved4to7 k | dcbrClut01Reserved8to15 k
  | dcbrClut0Reserved4to7 k | dcbrClut0Reserved8to15 k | dcbrClut1Reserved4to7 k | dcbrClut1Reserved8to15 k
  | dcbrPmr01Reserved8to15 k | dcbrPmr0Reserved8to15 k | dcbrPmr1Reserved8to15 k | dcbrAnalogR k | dcbrLatch0R k
  | dcbrLatch1R k | dcbrNone10to11 k | dcbrNone12to15 k =>
    induction k using bitVec_of_ofNat with
    | h n hn => interval_cases n <;> rfl
  | paletteBase c => exact (decode_paletteBase c).trans (if_pos (of_decide_eq_true hi))
  | _ => rfl

/-! ## What the decoder reads is well formed -/

/-- The four accesses to a register of R86. -/
theorem hostInstr_wf (r : HostReg) (v m : W64) :
    (readInstr r).wf = true ∧ (readAliasInstr r).wf = true ∧ (writeInstr r v m).wf = true ∧ (goInstr r v m).wf = true := by
  cases r with
  | ce q => cases q <;> exact ⟨rfl, rfl, rfl, rfl⟩
  | _ => exact ⟨rfl, rfl, rfl, rfl⟩

/-- A host access is rejected, or read as one of the four accesses to a register (R81, R115). -/
theorem wf_of_decodeHost {key : BitVec 14} {v : W64} {m : Option W64} {i : Instr} (hd : decodeHost key v m = .ok i) :
    i.wf = true := by
  unfold decodeHost at hd
  split at hd
  · split at hd <;> cases hd
  · rename_i r _
    obtain ⟨hread, halias, hwrite, hgo⟩ := hostInstr_wf r v (m.getD (BitVec.allOnes 64))
    split at hd <;> cases hd
    · exact hread
    · exact halias
    · exact hwrite
    · exact hgo

/-- The decoder's test of a `palette_base` number is the one well-formedness makes (R271, log 11). -/
theorem wf_of_decodeQuery {q : Query} {i : Instr} (hd : decodeQuery q = .ok i) : i.wf = true := by
  cases q with
  | paletteBase c =>
    have hd' := (decode_paletteBase c).symm.trans hd
    split at hd' <;> cases hd'
    exact decide_eq_true ‹c < 2›
  | _ => cases hd; rfl

/-- Settles O4, by the form of the request. -/
theorem decodedWellFormed : Obligations.DecodedWellFormed := by
  intro r i hd
  cases r with
  | host key v m => exact wf_of_decodeHost hd
  | command k => cases hd; exact decodeCommand_wf k
  | dcb k => cases hd; exact decodeDcb_wf k
  | query q => exact wf_of_decodeQuery hd
  | timeout | hardReset | softReset => cases hd; rfl

/-! ## Every key is one instruction's -/

/-- The 32 command keys (R90). -/
theorem encode_decodeCommand (k : BitVec 5) : encode (decodeCommand k) = .command k := by revert k; decide

/-- The 512 DCB keys (R91), by direction, sub-address and register select. -/
theorem encode_decodeDcb (k : BitVec 9) : encode (decodeDcb k) = .dcb k := by
  have fields (slave reg : BitVec 4) :
      encode (decodeDcb (1#1 ++ slave ++ reg)) = .dcb (1#1 ++ slave ++ reg) ∧
        encode (decodeDcb (0#1 ++ slave ++ reg)) = .dcb (0#1 ++ slave ++ reg) := by
    induction slave using bitVec4_cases <;> induction reg using bitVec4_cases <;> exact ⟨rfl, rfl⟩
  obtain e | e := dcbKey_eq k <;> rw [e]
  · exact (fields _ _).1
  · exact (fields _ _).2

/-- Settles O2: the key spaces by `encode_decodeCommand` and `encode_decodeDcb`, each word written out from the spec by
evaluating the decoder. -/
theorem keysAndWordsDecode : Obligations.KeysAndWordsDecode :=
  ⟨encode_decodeCommand, encode_decodeDcb, rfl, rfl, rfl, rfl, rfl, rfl, rfl, rfl, rfl⟩

end Sys2Proof

/-! # Register access (40_register_access.md)

What each host access does, from the shared operation behind its row: `hostRead`, `hostWrite` and `go` of the laws. -/

namespace Sys2Proof.Machine

/-! ## Which accesses are valid (R115) -/

theorem mem_hostRegs (r : HostReg) : r ∈ hostRegs := by
  cases r with
  | ce q => cases q <;> decide
  | _ => decide

theorem hostRegAt_isSome_iff_exists (w8 : Bool) (roff : Nat) :
    (hostRegAt w8 roff).isSome ↔ ∃ r, roffOf r = roff ∧ isWide r = w8 := by
  simp [hostRegAt, List.find?_isSome, mem_hostRegs]

/-- The width-4 registers lie at the multiples of 4 from 0x000 to 0x0AC, the hole 0x05C left out (R86). -/
theorem roffOf_narrow {r : HostReg} (hr : isWide r = false) : roffOf r % 4 = 0 ∧ roffOf r ≤ 0x0AC ∧ roffOf r ≠ 0x05C := by
  cases r with
  | ce q => cases q <;> decide
  | hostdata => cases hr
  | xystarti | xyendi | status => decide

/-- Every one of those offsets has its register. -/
theorem exists_narrow_at {roff : Nat} (h4 : roff % 4 = 0) (hle : roff ≤ 0x0AC) (hne : roff ≠ 0x05C) :
    ∃ r, roffOf r = roff ∧ isWide r = false := by
  have table : ∀ k < 44, k ≠ 23 → ∃ r ∈ hostRegs, roffOf r = 4 * k ∧ isWide r = false := by decide
  obtain ⟨k, rfl⟩ := Nat.dvd_of_mod_eq_zero h4
  obtain ⟨r, -, hoff, hwide⟩ := table k (by omega) (by omega)
  exact ⟨r, hoff, hwide⟩

theorem hostRegAt_isSome_iff (w8 : Bool) (roff : Nat) :
    (hostRegAt w8 roff).isSome ↔ if w8 then roff = 0x0B0 else roff % 4 = 0 ∧ roff ≤ 0x0AC ∧ roff ≠ 0x05C := by
  rw [hostRegAt_isSome_iff_exists]
  cases w8 with
  | false =>
    constructor
    · rintro ⟨r, rfl, hr⟩
      exact roffOf_narrow hr
    · rintro ⟨h4, hle, hne⟩
      exact exists_narrow_at h4 hle hne
  | true =>
    constructor
    · rintro ⟨r, rfl, hr⟩
      cases r with
      | hostdata => rfl
      | _ => cases hr
    · exact fun h => ⟨.hostdata, h.symm, rfl⟩

theorem decodeHost_of_register {key : BitVec 14} (h : (hostRegAt (key.getLsbD 12) (key.extractLsb' 0 11).toNat).isSome)
    (v : W64) (m : Option W64) : ∃ i, decodeHost key v m = .ok i := by
  obtain ⟨r, hr⟩ := Option.isSome_iff_exists.1 h
  simp only [decodeHost, hr]
  split <;> exact ⟨_, rfl⟩

theorem decodeHost_of_no_register {key : BitVec 14} (h : hostRegAt (key.getLsbD 12) (key.extractLsb' 0 11).toNat = none)
    (v : W64) (m : Option W64) :
    decodeHost key v m =
      .error (if key.getLsbD 13 then .invalidWrite else .invalidRead (key.getLsbD 12)) := by
  simp only [decodeHost, h]
  split <;> rfl

/-- Settles O3: the valid keys are those `hostRegAt` finds a register for, and the step answers the decoder's rejection. -/
theorem invalidAccess : Obligations.InvalidAccess := by
  intro s key v m rest hs
  refine ⟨fun hvalid => decodeHost_of_register ((hostRegAt_isSome_iff _ _).2 hvalid) v m, fun hinvalid => ?_⟩
  have hnone := Option.not_isSome_iff_eq_none.1 (mt (hostRegAt_isSome_iff _ _).1 hinvalid)
  rw [step_of_decode_error hs (decodeHost_of_no_register hnone v m)]
  cases key.getLsbD 13 <;> cases key.getLsbD 12 <;> rfl

/-! ## Live and dead masks (R131) -/

theorem exec_writeInstr_of_live {r : HostReg} {m : W64} (hm : maskLive r m = true) (v : W64) (s : State) :
    exec (writeInstr r v m) s = .next (hostWrite r v m s) := by
  rw [exec_writeInstr, if_pos hm]

theorem exec_goInstr_of_live {r : HostReg} {m : W64} (hm : maskLive r m = true) (v : W64) (s : State) :
    exec (goInstr r v m) s = .next (go (hostWrite r v m s)) := by
  rw [exec_goInstr, if_pos hm]

theorem maskLive_ce {r : Reg} {m : W64} (hm : m.setWidth 32 ≠ (0 : W32)) : maskLive (.ce r) m = true := decide_eq_true hm

theorem whenMasked_of_ne_zero {w : Nat} {m : BitVec w} (hm : m ≠ 0) (f : State → State) (s : State) :
    whenMasked m f s = f s := if_neg hm

/-- Settles O13: under a dead mask both rows leave the state alone. -/
theorem maskZeroWrite : Obligations.MaskZeroWrite := by
  intro r v m s hm
  simp [exec_writeInstr, exec_goInstr, hm]

/-- Settles O14: the GO row runs `go` on the register's write, and `go` is the command DRAWMODE0 selects. -/
theorem goAliasWrite : Obligations.GoAliasWrite := by
  intro r v m s hm
  exact ⟨hostWrite r v m s, go (hostWrite r v m s), exec_writeInstr_of_live hm v s, exec_decodeCommand_commandKey _,
    exec_goInstr_of_live hm v s⟩

/-! ## Writes by group of registers -/

/-- A plain register takes the merged value, DCBMODE its low 8 bits (R119). -/
theorem hostWrite_plain {r : Reg} (hr : r ∈ plainRegs) (v m : W64) (s : State) :
    hostWrite (.ce r) v m s = s.setReg r
      (if r = .dcbmode then merge (s.ce.get r) (v.setWidth 32) (m.setWidth 32) &&& 0x000000FF
       else merge (s.ce.get r) (v.setWidth 32) (m.setWidth 32)) := by
  cases r with
  | drawmode0 | drawmode1 | xstart | ystart | xend | yend | bresErr | bresInc1 | bresInc2 | bresCount | bresOctant | curxy
  | dcbdata0 => exact absurd hr (by decide)
  | _ => rfl

theorem hostWrite_coord {r : Reg} (hr : r ∈ coordRegs) (v m : W64) (s : State) :
    hostWrite (.ce r) v m s = writeCoord r (v.setWidth 32) (m.setWidth 32) s := by
  fin_cases hr <;> rfl

theorem hostWrite_readOnly {r : Reg} (hr : r ∈ readOnlyRegs) (v m : W64) (s : State) : hostWrite (.ce r) v m s = s := by
  fin_cases hr <;> rfl

/-- Settles O7, from the shared write of the plain registers. -/
theorem plainRegisterWrite : Obligations.PlainRegisterWrite := by
  intro r hr v m s hm
  rw [exec_writeInstr_of_live (maskLive_ce hm), hostWrite_plain hr]
  rfl

/-- Settles O8: both rows are the register's store, cut to its defined bits, and the end of the transfer. -/
theorem drawmodeWrite : Obligations.DrawmodeWrite := by
  intro v m s hm
  exact ⟨congrArg Host.Outcome.next (whenMasked_of_ne_zero hm (writeDrawmode0 v m) s),
    congrArg Host.Outcome.next (whenMasked_of_ne_zero hm (writeDrawmode1 v m) s)⟩

/-- Settles O9, from the shared write of the coordinate registers. -/
theorem coordinateWrite : Obligations.CoordinateWrite := by
  intro r hr v m s hm
  rw [exec_writeInstr_of_live (maskLive_ce hm), hostWrite_coord hr]
  rfl

/-- Settles O10, from what a write of each view does in closed form. -/
theorem packedViewWrite : Obligations.PackedViewWrite := by
  intro v m s hm
  simp only [decide_eq_true_eq]
  constructor
  · exact congrArg Host.Outcome.next
      ((whenMasked_of_ne_zero hm (writeXystarti v m) s).trans (writeXystarti_eq v m s))
  · exact congrArg Host.Outcome.next ((whenMasked_of_ne_zero hm (writeXyendi v m) s).trans (writeXyendi_eq v m s))

/-- A write of STATUS clears each sticky bit where its written lane is 1 (R123). -/
theorem writeStatus_eq (v m : W32) (s : State) :
    writeStatus v m s =
      { s with vint := s.vint && !(v &&& m).getLsbD 4, dcbtmo := s.dcbtmo && !(v &&& m).getLsbD 3 } := by
  simp only [writeStatus]
  generalize (v &&& m).getLsbD 4 = clearVint
  generalize (v &&& m).getLsbD 3 = clearTmo
  cases clearVint <;> cases clearTmo <;> simp [State.setVint, State.setDcbtmo]

/-- Settles O11: under the mask 0 no lane is written, and nothing is cleared. -/
theorem statusWrite : Obligations.StatusWrite := by
  intro v m s
  rw [← writeStatus_eq]
  by_cases hm : m = 0
  · have hnone : writeStatus v m s = s := by simp [writeStatus_eq, hm]
    rw [hnone]
    exact congrArg Host.Outcome.next (if_pos hm)
  · exact congrArg Host.Outcome.next (whenMasked_of_ne_zero hm (writeStatus v m) s)

/-- Settles O12: the write leaves the state alone, so that the command of the GO row is the one selected before it. -/
theorem readOnlyWrite : Obligations.ReadOnlyWrite := by
  intro r hr v m s
  constructor
  · rw [exec_writeInstr, hostWrite_readOnly hr, ite_self]
  · intro hm
    rw [exec_goInstr_of_live (maskLive_ce hm), hostWrite_readOnly hr]
    exact (exec_decodeCommand_commandKey s).symm

/-! ## Reads -/

theorem hostRead_ce {r : Reg} (hr : r ≠ .dcbdata0) (s : State) : hostRead (.ce r) s = readReg r s := by
  cases r with
  | dcbdata0 => exact absurd rfl hr
  | _ => rfl

/-- Settles O15: a stored register's read and a view's are replies with the value. -/
theorem registerReads : Obligations.RegisterReads := by
  intro s
  refine ⟨fun r hr => ?_, rfl, rfl⟩
  rw [exec_readInstr, hostRead_ce hr]
  rfl

/-- A word put together as STATUS is has the four flags in its five low bits, and no other bit. -/
theorem flagWord_bits : ∀ vint tmo pend act : Bool,
    let w : W32 := 0#27 ++ BitVec.ofBool vint ++ BitVec.ofBool tmo ++ BitVec.ofBool pend ++ BitVec.ofBool act ++ 0#1
    w.getLsbD 4 = vint ∧ w.getLsbD 3 = tmo ∧ w.getLsbD 2 = pend ∧ w.getLsbD 1 = act ∧ w.getLsbD 0 = false ∧
      w.toNat < 2 ^ 5 := by decide

/-- The bits of the STATUS word (R122). -/
theorem statusWord_bits (s : State) :
    (statusWord s).getLsbD 4 = s.vint ∧ (statusWord s).getLsbD 3 = s.dcbtmo ∧ (statusWord s).getLsbD 2 = s.dcbPending ∧
      (statusWord s).getLsbD 1 = s.xf.active ∧ (statusWord s).getLsbD 0 = false ∧
      ∀ i, 5 ≤ i → (statusWord s).getLsbD i = false := by
  obtain ⟨hvint, htmo, hpend, hact, hbusy, hlow⟩ := flagWord_bits s.vint s.dcbtmo s.dcbPending s.xf.active
  refine ⟨hvint, htmo, hpend, hact, hbusy, fun i hi => ?_⟩
  exact Nat.testBit_lt_two_pow (Nat.lt_of_lt_of_le hlow (Nat.pow_le_pow_right (by decide) hi))

/-- Settles O16: the read replies with the STATUS word. -/
theorem statusRead : Obligations.StatusRead := fun s => ⟨statusWord s, rfl, statusWord_bits s⟩

/-- Settles O17: the two rows of a register are one read. -/
theorem readAlias : Obligations.ReadAlias := fun r s => ⟨hostRead r s, exec_readInstr r s, exec_readAliasInstr r s⟩

/-! ## DCBDATA0 -/

/-- The DCB key of a direction and DCBMODE's low 8 bits is that of the direction, SLAVESEL and REGSEL (R91, R331). -/
theorem dcbKey_of_dcbmode (d : BitVec 1) (s : State) :
    d ++ s.ce.dcbmode.extractLsb' 0 8 = d ++ s.slavesel ++ s.regsel := by
  have halves : ∀ (d : BitVec 1) (b : BitVec 8), d ++ b = d ++ b.extractLsb' 4 4 ++ b.extractLsb' 0 4 := by decide
  rw [halves, BitVec.extractLsb'_extractLsb'_of_le (by decide), BitVec.extractLsb'_extractLsb'_of_le (by decide)]
  rfl

theorem exec_dcbWrite_selected (s : State) :
    exec (decodeDcb (1#1 ++ s.ce.dcbmode.extractLsb' 0 8)) s = .next (dcbWriteTo s.slavesel s.regsel s) := by
  rw [dcbKey_of_dcbmode]
  exact exec_dcbWrite s.slavesel s.regsel s

theorem exec_dcbRead_selected (s : State) :
    exec (decodeDcb (0#1 ++ s.ce.dcbmode.extractLsb' 0 8)) s = .next (dcbReadFrom s.slavesel s.regsel s) := by
  rw [dcbKey_of_dcbmode]
  exact exec_dcbRead s.slavesel s.regsel s

/-- Settles O19: a write of DCBDATA0 is the store and the selected transaction, a read the transaction and the reply. -/
theorem dcbData0Access : Obligations.DcbData0Access := by
  intro v m s
  refine ⟨fun hm => ⟨_, exec_dcbWrite_selected (writePlain .dcbdata0 v m s), ?_⟩, _, exec_dcbRead_selected s, rfl⟩
  exact congrArg Host.Outcome.next (whenMasked_of_ne_zero hm (writeDcbdata0 v m) s)

end Sys2Proof.Machine

/-! # Every step keeps the invariant (20_memory.md R63, R79, R80; 40_register_access.md R114; 10_state.md R39)

`State.keepsInv` relates two states of one run; it composes, so each shared operation of the model is shown once to keep the
invariant and a step is the operation its request selects. -/

namespace Sys2Proof.Machine

/-! ## Keeping the invariant -/

/-- If `s` satisfies the invariant, so does `t`, under the same parameters. -/
def State.keepsInv (s t : State) : Prop := s.Inv → t.Inv ∧ t.par = s.par

theorem State.keepsInv_refl (s : State) : s.keepsInv s := fun hs => ⟨hs, rfl⟩

theorem State.keepsInv.trans {s t u : State} (h : s.keepsInv t) (k : t.keepsInv u) : s.keepsInv u := by
  intro hs
  obtain ⟨ht, hp⟩ := h hs
  obtain ⟨hu, hq⟩ := k ht
  exact ⟨hu, hq.trans hp⟩

/-- The fields the invariant does not read may change freely. -/
theorem State.keepsInv_of_unread {s t : State}
    (h : t = { s with
      hostdata := t.hostdata, vint := t.vint, dcbtmo := t.dcbtmo, dcbPending := t.dcbPending, analog := t.analog,
      latch0 := t.latch0, latch1 := t.latch1, tableDraws := t.tableDraws, lineDraws := t.lineDraws,
      inbox := t.inbox, out := t.out }) :
    s.keepsInv t := by
  intro hs
  rw [h]
  exact ⟨{ hs with window := windowFresh_congr hs.window rfl rfl rfl rfl rfl rfl rfl }, rfl⟩

theorem State.keepsInv_emit (s : State) (e : Output) : s.keepsInv (s.emit e) := State.keepsInv_of_unread rfl

theorem State.keepsInv_setPending (s : State) (b : Bool) : s.keepsInv (s.setPending b) := State.keepsInv_of_unread rfl

/-! ### The legal parameters -/

theorem State.Inv.clutEntries_pos {s : State} (hs : s.Inv) : 0 < s.par.clutEntries := by
  have hp := hs.parameters
  simp only [Params.wf, Bool.and_eq_true, decide_eq_true_eq] at hp
  omega

theorem State.Inv.tramWords_pos {s : State} (hs : s.Inv) : 0 < s.par.tramWords := by
  have hp := hs.parameters
  simp only [Params.wf, Bool.and_eq_true, decide_eq_true_eq] at hp
  omega

/-! ### The CE registers -/

/-- What the invariant says of one CE register's value: the reserved bits of R114 and the range of BRES_COUNT (R34). -/
def Reg.allows (r : Reg) (v : W32) : Prop :=
  match r with
  | .drawmode0 => v &&& ~~~(0x0001FFFF : W32) = 0
  | .drawmode1 => v &&& ~~~(0x0003FFFF : W32) = 0
  | .dcbmode => v &&& ~~~(0x000000FF : W32) = 0
  | .bresOctant => v &&& ~~~(7 : W32) = 0
  | .bresCount => v.toNat ≤ 65535
  | _ => True

/-- Every CE register holds a value the invariant allows it. -/
def CeRegs.allowed (c : CeRegs) : Prop := ∀ r : Reg, r.allows (c.get r)

theorem CeRegs.allowed_iff (c : CeRegs) :
    c.allowed ↔ c.drawmode0 &&& ~~~(0x0001FFFF : W32) = 0 ∧ c.drawmode1 &&& ~~~(0x0003FFFF : W32) = 0 ∧
      c.dcbmode &&& ~~~(0x000000FF : W32) = 0 ∧ c.bresOctant &&& ~~~(7 : W32) = 0 ∧ c.bresCount.toNat ≤ 65535 := by
  constructor
  · exact fun h => ⟨h .drawmode0, h .drawmode1, h .dcbmode, h .bresOctant, h .bresCount⟩
  · rintro ⟨hd0, hd1, hdcb, hoct, hcount⟩ r
    cases r with
    | drawmode0 => exact hd0
    | drawmode1 => exact hd1
    | dcbmode => exact hdcb
    | bresOctant => exact hoct
    | bresCount => exact hcount
    | _ => trivial

theorem CeRegs.allowed_set {c : CeRegs} (hc : c.allowed) {r : Reg} {v : W32} (hv : r.allows v) : (c.set r v).allowed := by
  intro q
  rw [CeRegs.get_set]
  split
  · rename_i hq; rwa [hq]
  · exact hc q

/-- Planes that keep their canonical form and CE registers that keep to what is allowed keep the invariant. -/
theorem State.keepsInv_planes_ce {s : State} {q : Planes} {c : CeRegs}
    (hq : (∀ p, (s.planes.get p).wf (s.par.fbW * s.par.fbH) = true) → ∀ p, (q.get p).wf (s.par.fbW * s.par.fbH) = true)
    (hc : s.ce.allowed → c.allowed) : s.keepsInv { s with planes := q, ce := c } := by
  intro hs
  obtain ⟨hplanes, hcluts, hmodes, htram⟩ := hs.canonical
  obtain ⟨hd0, hd1, hdcb, hoct, hconfig, hctrl⟩ := hs.reserved
  obtain ⟨kd0, kd1, kdcb, koct, kcount⟩ := (CeRegs.allowed_iff c).1
    (hc ((CeRegs.allowed_iff s.ce).2 ⟨hd0, hd1, hdcb, hoct, hs.count⟩))
  exact ⟨{ hs with
    canonical := ⟨hq hplanes, hcluts, hmodes, htram⟩
    reserved := ⟨kd0, kd1, kdcb, koct, hconfig, hctrl⟩
    window := windowFresh_congr hs.window rfl rfl rfl rfl rfl rfl rfl
    count := kcount }, rfl⟩

theorem State.keepsInv_setReg (s : State) (r : Reg) {v : W32} (hv : r.allows v) : s.keepsInv (s.setReg r v) :=
  State.keepsInv_planes_ce (fun h => h) fun hc => CeRegs.allowed_set hc hv

/-- Drawing keeps the invariant where it keeps the planes canonical: it changes no register the invariant reads. -/
theorem State.keepsInv_of_onlyDrew {s t : State} (h : s.onlyDrew t)
    (hq : (∀ p, (s.planes.get p).wf (s.par.fbW * s.par.fbH) = true) →
      ∀ p, (t.planes.get p).wf (s.par.fbW * s.par.fbH) = true) : s.keepsInv t := by
  unfold State.onlyDrew at h
  rw [h]
  exact State.keepsInv_planes_ce hq fun hc => (CeRegs.allowed_iff _).2 ((CeRegs.allowed_iff s.ce).1 hc)

/-! ### The transfer state, the sub-devices and TRAM -/

theorem State.keepsInv_setXf {s : State} {x : Xfer} (hx : s.xf.cursorInside → x.cursorInside) : s.keepsInv (s.setXf x) :=
  fun hs => ⟨{ hs with
    transfer := hx hs.transfer
    window := windowFresh_congr hs.window rfl rfl rfl rfl rfl rfl rfl }, rfl⟩

theorem State.keepsInv_setClut {s : State} {c : Inst} {k : Clut}
    (hk : s.Inv → k.index < s.par.clutEntries ∧ k.table.wf s.par.clutEntries = true) : s.keepsInv (s.setClut c k) := by
  intro hs
  obtain ⟨hplanes, hcluts, hmodes, htram⟩ := hs.canonical
  obtain ⟨hindex, hlc⟩ := hs.indices
  have htables : ∀ d, ((s.setClut c k).clut d).table.wf s.par.clutEntries = true := by
    intro d
    rw [State.setClut_clut]
    split
    · exact (hk hs).2
    · exact hcluts d
  have hindices : ∀ d, ((s.setClut c k).clut d).index < s.par.clutEntries := by
    intro d
    rw [State.setClut_clut]
    split
    · exact (hk hs).1
    · exact hindex d
  have hwindow : (s.setClut c k).windowFresh := by
    cases c <;> exact windowFresh_congr hs.window rfl rfl rfl rfl rfl rfl rfl
  cases c <;>
    exact ⟨{ hs with
      canonical := ⟨hplanes, htables, hmodes, htram⟩, indices := ⟨hindices, hlc⟩, window := hwindow }, rfl⟩

theorem State.keepsInv_setPmr {s : State} {i : Inst} {p : Pmr}
    (hp : s.Inv → p.config &&& ~~~(1 : W8) = 0 ∧ p.mode.wf 32 = true) : s.keepsInv (s.setPmr i p) := by
  intro hs
  obtain ⟨hplanes, hcluts, hmodes, htram⟩ := hs.canonical
  obtain ⟨hd0, hd1, hdcb, hoct, hconfig, hctrl⟩ := hs.reserved
  have htables : ∀ j, ((s.setPmr i p).pmr j).mode.wf 32 = true := by
    intro j
    rw [State.setPmr_pmr]
    split
    · exact (hp hs).2
    · exact hmodes j
  have hconfigs : ∀ j, ((s.setPmr i p).pmr j).config &&& ~~~(1 : W8) = 0 := by
    intro j
    rw [State.setPmr_pmr]
    split
    · exact (hp hs).1
    · exact hconfig j
  have hwindow : (s.setPmr i p).windowFresh := by
    cases i <;> exact windowFresh_congr hs.window rfl rfl rfl rfl rfl rfl rfl
  cases i <;>
    exact ⟨{ hs with
      canonical := ⟨hplanes, hcluts, htables, htram⟩, reserved := ⟨hd0, hd1, hdcb, hoct, hconfigs, hctrl⟩,
      window := hwindow }, rfl⟩

theorem State.keepsInv_setAux (s : State) (d : AuxId) (f : AuxRegs) : s.keepsInv (s.setAux d f) := by
  cases d <;> exact State.keepsInv_of_unread rfl

/-- TRAM and the TG's registers change together in a RAM_DATA write; the window has to be fresh after both. -/
theorem State.keepsInv_tram_tg {s : State} {m : Memory 16} {g : Tg} (hm : s.Inv → m.wf s.par.tramWords = true)
    (hctrl : s.Inv → g.displayCtrl &&& ~~~(0x001F : W16) = 0) (hlc : s.Inv → g.lc < s.par.tramWords)
    (hfresh : s.Inv → ((s.setTram m).setTg g).windowFresh) : s.keepsInv ((s.setTram m).setTg g) := by
  intro hs
  obtain ⟨hplanes, hcluts, hmodes, _⟩ := hs.canonical
  obtain ⟨hd0, hd1, hdcb, hoct, hconfig, _⟩ := hs.reserved
  obtain ⟨hindex, _⟩ := hs.indices
  exact ⟨{ hs with
    canonical := ⟨hplanes, hcluts, hmodes, hm hs⟩
    reserved := ⟨hd0, hd1, hdcb, hoct, hconfig, hctrl hs⟩
    indices := ⟨hindex, hlc hs⟩
    window := hfresh hs }, rfl⟩

theorem State.Inv.displayCtrl_reserved {s : State} (hs : s.Inv) : s.tg.displayCtrl &&& ~~~(0x001F : W16) = 0 := by
  obtain ⟨-, -, -, -, -, hctrl⟩ := hs.reserved
  exact hctrl

theorem State.Inv.tram_wf {s : State} (hs : s.Inv) : s.tram.wf s.par.tramWords = true := by
  obtain ⟨-, -, -, htram⟩ := hs.canonical
  exact htram

theorem State.Inv.mode_wf {s : State} (hs : s.Inv) (i : Inst) : (s.pmr i).mode.wf 32 = true := by
  obtain ⟨-, -, hmodes, -⟩ := hs.canonical
  exact hmodes i

theorem State.Inv.table_wf {s : State} (hs : s.Inv) (c : Inst) : (s.clut c).table.wf s.par.clutEntries = true := by
  obtain ⟨-, hcluts, -, -⟩ := hs.canonical
  exact hcluts c

theorem State.Inv.config_reserved {s : State} (hs : s.Inv) (i : Inst) : (s.pmr i).config &&& ~~~(1 : W8) = 0 := by
  obtain ⟨-, -, -, -, hconfig, -⟩ := hs.reserved
  exact hconfig i

theorem State.Inv.lineCursor_lt {s : State} (hs : s.Inv) : s.tg.lc < s.par.tramWords := hs.indices.2

/-- A dirty TG has no window to keep fresh. -/
theorem State.keepsInv_setTg_dirty {s : State} {g : Tg} (hctrl : s.Inv → g.displayCtrl &&& ~~~(0x001F : W16) = 0)
    (hlc : g.lc = s.tg.lc) (hd : g.dirty = true) : s.keepsInv (s.setTg g) :=
  State.keepsInv_tram_tg (m := s.tram) State.Inv.tram_wf hctrl (fun hs => hlc ▸ hs.lineCursor_lt)
    fun _ h => absurd (hd.symm.trans h) Bool.noConfusion

/-- The TG registers that the decode does not read, and the line cursor. -/
theorem State.keepsInv_setTg_clean {s : State} {g : Tg} (hctrl : g.displayCtrl = s.tg.displayCtrl)
    (hlc : s.Inv → g.lc < s.par.tramWords) (hv : g.vtFramePtr = s.tg.vtFramePtr) (hl : g.vtLinePtr = s.tg.vtLinePtr)
    (hy : g.dirty = s.tg.dirty) (hw : g.win = s.tg.win) : s.keepsInv (s.setTg g) :=
  State.keepsInv_tram_tg (m := s.tram) State.Inv.tram_wf (fun hs => hctrl ▸ hs.displayCtrl_reserved) hlc
    fun hs => windowFresh_congr hs.window rfl rfl rfl hv hl hy hw

/-! ## The command engine -/

/-- A value cut down to some bits has no other bit. -/
theorem and_mask_and_not_mask {w : Nat} (v m : BitVec w) : v &&& m &&& ~~~m = 0 := by
  rw [BitVec.and_assoc, BitVec.and_not_self]
  exact BitVec.and_zero

theorem visit_keepsInv (x y : Int) (s : State) : s.keepsInv (visit x y s) :=
  State.keepsInv_of_onlyDrew (visit_onlyDrew x y s) fun h => planes_wf_visit h x y

theorem plot_keepsInv (x y : Int) (src : PlaneId → W32) (s : State) : s.keepsInv (plot x y src s) :=
  State.keepsInv_of_onlyDrew (plot_onlyDrew x y src s) fun h => planes_wf_plot h x y src

theorem endTransfer_keepsInv (s : State) : s.keepsInv (endTransfer s) := State.keepsInv_setXf fun hx => hx

theorem cmdPixel_keepsInv (s : State) : s.keepsInv (cmdPixel s) :=
  (visit_keepsInv _ _ s).trans (State.keepsInv_setReg _ .curxy trivial)

/-- What every body of a block keeps, the block keeps. -/
theorem blockIter_keepsInv {body : Int → Int → State → State} (hb : ∀ x y (s : State), s.keepsInv (body x y s))
    (x0 y0 x1 y1 : Int) (s : State) : s.keepsInv (blockIter body x0 y0 x1 y1 s) := by
  rw [blockIter_eq]
  exact inOrder_invariant (P := State.keepsInv s) (fun _ t (h : s.keepsInv t) => h.trans (hb _ _ t)) s.keepsInv_refl _

theorem cmdBlockFill_keepsInv (s : State) : s.keepsInv (cmdBlockFill s) :=
  (blockIter_keepsInv visit_keepsInv _ _ _ _ s).trans (State.keepsInv_setReg _ .curxy trivial)

theorem cmdBlockCopy_keepsInv (s : State) : s.keepsInv (cmdBlockCopy s) :=
  (blockIter_keepsInv (fun _ _ t => plot_keepsInv _ _ _ t) _ _ _ _ s).trans (State.keepsInv_setReg _ .curxy trivial)

/-- An octant code has three bits (R34). -/
theorem LineSetup.octant_reserved (l : LineSetup) : l.octant &&& ~~~(7 : W32) = 0 := by
  unfold LineSetup.octant
  cases l.sy == .neg <;> cases l.sx == .neg <;> cases l.ymaj <;> rfl

theorem cmdLine_keepsInv (s : State) : s.keepsInv (cmdLine s) := by
  have hline := bresenhamLine_eq s.x0 s.y0 s.x1 s.y1 s (coordinateOk_hiInt _) (coordinateOk_hiInt _) (coordinateOk_hiInt _)
    (coordinateOk_hiInt _)
  unfold cmdLine
  rw [hline]
  refine State.keepsInv_planes_ce (fun h => planes_wf_bresenhamLine h _ _ _ _) fun hc => (CeRegs.allowed_iff _).2 ?_
  have hadv := State.advancedBy_onlyDrew s ((lineSetup s.x0 s.y0 s.x1 s.y1).visits s.endpt)
  unfold State.onlyDrew at hadv
  obtain ⟨hd0, hd1, hdcb, -, -⟩ := (CeRegs.allowed_iff _).1 hc
  rw [hadv]
  exact ⟨hd0, hd1, hdcb, LineSetup.octant_reserved _, Nat.zero_le _⟩

/-- A transfer starts at the first corner of its rectangle. -/
theorem cmdHost_keepsInv (dir : XferDir) (s : State) : s.keepsInv (cmdHost dir s) := by
  have hcursor (a b : Int) : within a b a := by unfold within; omega
  refine (State.keepsInv_setXf fun _ => ?_).trans (State.keepsInv_setReg _ .curxy trivial)
  exact ⟨coordinateOk_hiInt _, coordinateOk_hiInt _, coordinateOk_hiInt _, coordinateOk_hiInt _, rfl, rfl, hcursor _ _,
    hcursor _ _⟩

theorem commandOf_keepsInv (k : BitVec 5) (s : State) : s.keepsInv (commandOf k s) := by
  unfold commandOf
  split
  · exact s.keepsInv_refl
  · exact cmdPixel_keepsInv s
  · exact cmdLine_keepsInv s
  · split
    · exact cmdBlockCopy_keepsInv s
    · exact cmdBlockFill_keepsInv s
  · split <;> exact cmdHost_keepsInv _ s
  · exact s.keepsInv_refl

theorem go_keepsInv (s : State) : s.keepsInv (go s) := by
  rw [go_eq]
  exact (endTransfer_keepsInv s).trans (commandOf_keepsInv _ _)

/-! ## The host transfer -/

theorem xfAdvance_keepsInv (s : State) : s.keepsInv (xfAdvance s) :=
  (s.keepsInv_setReg .curxy trivial).trans (State.keepsInv_setXf Xfer.cursorInside_advance)

theorem consumeWord_keepsInv (w : W32) (s : State) : s.keepsInv (consumeWord w s) := by
  unfold consumeWord
  split
  · exact (plot_keepsInv _ _ _ s).trans (xfAdvance_keepsInv _)
  · exact s.keepsInv_refl

theorem hostConsume_keepsInv (s : State) : s.keepsInv (hostConsume s) := by
  unfold hostConsume
  split
  · exact (consumeWord_keepsInv _ s).trans (consumeWord_keepsInv _ _)
  · exact consumeWord_keepsInv _ s

theorem produceWord_keepsInv (s : State) : s.keepsInv (produceWord s).1 := by
  unfold produceWord
  split
  · exact xfAdvance_keepsInv s
  · exact s.keepsInv_refl

theorem hostProduce_keepsInv (s : State) : s.keepsInv (hostProduce s).1 := by
  unfold hostProduce
  split
  · exact (produceWord_keepsInv s).trans (produceWord_keepsInv _)
  · exact produceWord_keepsInv s

theorem readHostdata_keepsInv (s : State) : s.keepsInv (readHostdata s) := by
  unfold readHostdata
  split
  · have hstore (t : State) (v : W64) : t.keepsInv (t.setHostdata v) := State.keepsInv_of_unread rfl
    exact ((hostProduce_keepsInv s).trans (hstore _ _)).trans (State.keepsInv_emit _ _)
  · exact s.keepsInv_emit _

theorem writeHostdata_keepsInv (v m : W64) (s : State) : s.keepsInv (writeHostdata v m s) := by
  have hstore : s.keepsInv (s.setHostdata (merge s.hostdata v m)) := State.keepsInv_of_unread rfl
  unfold writeHostdata
  simp only
  split
  · exact hstore.trans (hostConsume_keepsInv _)
  · exact hstore

/-! ## The device-control bus -/

theorem pmrWrite_keepsInv (i : Inst) (r : BitVec 4) (v : W32) (s : State) : s.keepsInv (pmrWrite i r v s) := by
  unfold pmrWrite
  split
  · exact State.keepsInv_setPmr fun hs => ⟨and_mask_and_not_mask _ _, hs.mode_wf i⟩
  · exact State.keepsInv_setPmr fun hs => ⟨hs.config_reserved i, hs.mode_wf i⟩
  · exact State.keepsInv_setPmr fun hs => ⟨hs.config_reserved i, hs.mode_wf i⟩
  · exact State.keepsInv_setPmr fun hs => ⟨hs.config_reserved i, hs.mode_wf i⟩
  · exact State.keepsInv_setPmr fun hs => ⟨hs.config_reserved i, Memory.wf_set _ (hs.mode_wf i) (BitVec.isLt _)⟩
  · exact s.keepsInv_refl

theorem clutWrite_keepsInv (c : Inst) (r : BitVec 4) (v : W32) (s : State) : s.keepsInv (clutWrite c r v s) := by
  unfold clutWrite
  split
  · exact State.keepsInv_setClut fun hs => ⟨Nat.mod_lt _ hs.clutEntries_pos, hs.table_wf c⟩
  · exact State.keepsInv_setClut fun hs =>
      ⟨Nat.mod_lt _ hs.clutEntries_pos, Memory.wf_set _ (hs.table_wf c) (Nat.mod_lt _ hs.clutEntries_pos)⟩
  · exact s.keepsInv_refl

/-- A RAM_DATA write leaves the TG dirty, so that the words it changes make no window stale (R294, R295). -/
theorem tgWrite_ramData_keepsInv (w a : W16) (s : State) :
    s.keepsInv ((tramWrite s s.tg.ramAddr.toNat w).setTg { s.tg with ramAddr := a, dirty := true }) :=
  State.keepsInv_tram_tg (fun hs => Memory.wf_set w hs.tram_wf (Nat.mod_lt _ hs.tramWords_pos))
    State.Inv.displayCtrl_reserved State.Inv.lineCursor_lt fun _ h => absurd h Bool.noConfusion

theorem tgWrite_keepsInv (r : BitVec 4) (v : W32) (s : State) : s.keepsInv (tgWrite r v s) := by
  have pointer {g : Tg} (hctrl : g.displayCtrl = s.tg.displayCtrl) (hlc : g.lc = s.tg.lc) (hd : g.dirty = true) :
      s.keepsInv (s.setTg g) :=
    State.keepsInv_setTg_dirty (fun hs => hctrl ▸ hs.displayCtrl_reserved) hlc hd
  have undecoded {g : Tg} (h : g = { s.tg with
      cursorGlyphPtr := g.cursorGlyphPtr, cursorX := g.cursorX, cursorY := g.cursorY, vintLine := g.vintLine,
      ramAddr := g.ramAddr }) : s.keepsInv (s.setTg g) := by
    rw [h]
    exact State.keepsInv_setTg_clean rfl State.Inv.lineCursor_lt rfl rfl rfl rfl
  unfold tgWrite
  split
  · exact pointer rfl rfl rfl
  · exact pointer rfl rfl rfl
  · exact pointer rfl rfl rfl
  · exact undecoded rfl
  · exact undecoded rfl
  · exact undecoded rfl
  · exact State.keepsInv_setTg_dirty (fun _ => and_mask_and_not_mask _ _) rfl rfl
  · exact undecoded rfl
  · exact undecoded rfl
  · exact tgWrite_ramData_keepsInv _ _ s
  · exact s.keepsInv_refl

theorem auxWrite_keepsInv (d : AuxId) (r : BitVec 4) (v : W32) (s : State) : s.keepsInv (auxWrite d r v s) :=
  State.keepsInv_setAux s d _

theorem slaveWrite_keepsInv (slave r : BitVec 4) (v : W32) (s : State) : s.keepsInv (slaveWrite slave r v s) := by
  unfold slaveWrite
  split
  · exact tgWrite_keepsInv r v s
  · exact (clutWrite_keepsInv .zero r v s).trans (clutWrite_keepsInv .one r v _)
  · exact clutWrite_keepsInv .zero r v s
  · exact clutWrite_keepsInv .one r v s
  · exact (pmrWrite_keepsInv .zero r v s).trans (pmrWrite_keepsInv .one r v _)
  · exact pmrWrite_keepsInv .zero r v s
  · exact pmrWrite_keepsInv .one r v s
  · exact auxWrite_keepsInv .analog r v s
  · exact auxWrite_keepsInv .latch0 r v s
  · exact auxWrite_keepsInv .latch1 r v s
  · exact s.keepsInv_refl

/-- The one read that changes its sub-device is RAM_DATA's, which advances RAM_ADDR (R294). -/
theorem tgRead_keepsInv (r : BitVec 4) (s : State) : s.keepsInv (tgRead r s).1 := by
  by_cases hr : r = 9#4
  · rw [hr]
    exact State.keepsInv_setTg_clean rfl State.Inv.lineCursor_lt rfl rfl rfl rfl
  · have same : (tgRead r s).1 = s := by
      revert hr
      induction r using bitVec4_cases <;> intro hr
      case h9 => exact absurd rfl hr
      all_goals rfl
    rw [same]
    exact s.keepsInv_refl

theorem slaveRead_keepsInv (slave r : BitVec 4) (s : State) : s.keepsInv (slaveRead slave r s).1 := by
  unfold slaveRead
  split
  · exact tgRead_keepsInv r s
  all_goals exact s.keepsInv_refl

theorem dcbWriteTo_keepsInv (slave r : BitVec 4) (s : State) : s.keepsInv (dcbWriteTo slave r s) := by
  refine (s.keepsInv_setPending false).trans ?_
  unfold dcbWriteTo
  split
  · exact slaveWrite_keepsInv slave r _ _
  · exact State.keepsInv_setPending _ true

theorem dcbReadFrom_keepsInv (slave r : BitVec 4) (s : State) : s.keepsInv (dcbReadFrom slave r s) := by
  refine (s.keepsInv_setPending false).trans ?_
  unfold dcbReadFrom
  split
  · exact (slaveRead_keepsInv slave r _).trans (State.keepsInv_setReg _ .dcbdata0 trivial)
  · exact State.keepsInv_setPending _ true

theorem dcbTimeout_keepsInv (s : State) : s.keepsInv (dcbTimeout s) := by
  unfold dcbTimeout
  split
  · exact State.keepsInv_of_unread rfl
  · exact s.keepsInv_refl

/-! ## The host accesses -/

theorem hostRead_keepsInv (q : HostReg) (s : State) : s.keepsInv (hostRead q s) := by
  cases q with
  | ce r =>
    cases r with
    | dcbdata0 => exact (dcbReadFrom_keepsInv _ _ s).trans (State.keepsInv_emit _ _)
    | _ => exact s.keepsInv_emit _
  | hostdata => exact readHostdata_keepsInv s
  | xystarti | xyendi | status => exact s.keepsInv_emit _

theorem writeStatus_keepsInv (v m : W32) (s : State) : s.keepsInv (writeStatus v m s) := by
  rw [writeStatus_eq]
  exact State.keepsInv_of_unread rfl

theorem writeCoord_keepsInv {r : Reg} (hr : ∀ v, r.allows v) (v m : W32) (s : State) : s.keepsInv (writeCoord r v m s) :=
  (s.keepsInv_setReg r (hr _)).trans (endTransfer_keepsInv _)

theorem writeView_keepsInv {rx ry : Reg} (hx : ∀ v, rx.allows v) (hy : ∀ v, ry.allows v) (view v m : W32) (s : State) :
    s.keepsInv (writeView rx ry view v m s) := by
  have half {r : Reg} (hr : ∀ v, r.allows v) (c : Prop) [Decidable c] (w : W32) (t : State) :
      t.keepsInv (if c then t.setReg r w else t) := by
    split
    · exact t.keepsInv_setReg r (hr w)
    · exact t.keepsInv_refl
  exact ((half hx _ _ s).trans (half hy _ _ _)).trans (endTransfer_keepsInv _)

theorem hostWrite_keepsInv (q : HostReg) (v m : W64) (s : State) : s.keepsInv (hostWrite q v m s) := by
  cases q with
  | ce r =>
    cases r with
    | drawmode0 | drawmode1 =>
      refine (s.keepsInv_setReg _ ?_).trans (endTransfer_keepsInv _)
      exact and_mask_and_not_mask _ _
    | dcbmode => exact s.keepsInv_setReg .dcbmode (and_mask_and_not_mask _ _)
    | dcbdata0 => exact (s.keepsInv_setReg .dcbdata0 trivial).trans (dcbWriteTo_keepsInv _ _ _)
    | xstart | ystart | xend | yend => refine writeCoord_keepsInv ?_ _ _ s; exact fun _ => trivial
    | bresErr | bresInc1 | bresInc2 | bresCount | bresOctant | curxy => exact s.keepsInv_refl
    | _ => refine s.keepsInv_setReg _ ?_; trivial
  | xystarti | xyendi => refine writeView_keepsInv ?_ ?_ _ _ _ s <;> exact fun _ => trivial
  | status => exact writeStatus_keepsInv _ _ s
  | hostdata => exact writeHostdata_keepsInv v m s

/-! ## The queries -/

/-- After the decode the cached window is the decoded one (R300). -/
theorem ensureDecoded_keepsInv (s : State) : s.keepsInv (ensureDecoded s) := by
  unfold ensureDecoded
  split
  · refine State.keepsInv.trans ?_ (State.keepsInv_emit _ _)
    refine State.keepsInv_tram_tg (m := s.tram) State.Inv.tram_wf State.Inv.displayCtrl_reserved State.Inv.lineCursor_lt
      fun _ _ => ?_
    refine (decodeWindow_congr ?_ ?_ ?_ ?_ ?_).symm <;> rfl
  · exact s.keepsInv_refl

/-- The line cursor may move to any TRAM word. -/
theorem lineCursor_keepsInv {s : State} {a : Nat} (ha : s.Inv → a < s.par.tramWords) (b : Bool) :
    s.keepsInv (s.setTg { s.tg with lc := a, lcEnd := b }) :=
  State.keepsInv_setTg_clean rfl ha rfl rfl rfl rfl

theorem nextDidEntry_keepsInv (s : State) : s.keepsInv (nextDidEntry s) := by
  unfold nextDidEntry
  split
  · exact s.keepsInv_emit _
  · simp only
    split
    · exact (lineCursor_keepsInv State.Inv.lineCursor_lt true).trans (State.keepsInv_emit _ _)
    · exact (lineCursor_keepsInv (fun hs => Nat.mod_lt _ hs.tramWords_pos) _).trans (State.keepsInv_emit _ _)

theorem openLine_keepsInv {s : State} {a : Nat} (ha : s.Inv → a < s.par.tramWords) : s.keepsInv (openLine a s) :=
  (lineCursor_keepsInv ha false).trans (nextDidEntry_keepsInv _)

theorem vintCheck_keepsInv (y : Nat) (s : State) : s.keepsInv (vintCheck y s) := by
  rw [vintCheck_eq]
  exact State.keepsInv_of_unread rfl

theorem beginLine_keepsInv (y : Nat) (s : State) : s.keepsInv (beginLine y s) := by
  refine ((ensureDecoded_keepsInv s).trans (vintCheck_keepsInv y _)).trans ?_
  unfold beginLine
  generalize vintCheck y (ensureDecoded s) = u
  simp only
  split
  · split
    · exact openLine_keepsInv fun hs => Nat.mod_lt _ hs.tramWords_pos
    · have hcount : u.keepsInv (u.setLineDraws (u.lineDraws + 1)) := State.keepsInv_of_unread rfl
      exact hcount.trans (openLine_keepsInv fun hs => Nat.mod_lt _ hs.tramWords_pos)
  · exact (lineCursor_keepsInv State.Inv.lineCursor_lt true).trans (State.keepsInv_emit _ _)

/-! ## The resets -/

theorem Xfer.reset_cursorInside : Xfer.reset.cursorInside := by
  simp [Xfer.reset, Xfer.cursorInside, coordinateOk, within, signToward]

/-- A state at its reset values, whatever its counters, its schedule and its outputs, satisfies the invariant if the tables it
holds have their canonical form (R383). -/
theorem State.keepsInv_of_reset {s t : State}
    (h : t = { State.reset with
      par := s.par, draws := t.draws, tableDraws := t.tableDraws, lineDraws := t.lineDraws, inbox := t.inbox, out := t.out,
      pmr0 := { Pmr.reset with mode := t.pmr0.mode }, pmr1 := { Pmr.reset with mode := t.pmr1.mode },
      clut0 := { Clut.reset with table := t.clut0.table }, clut1 := { Clut.reset with table := t.clut1.table } })
    (hmodes : s.Inv → ∀ i, (t.pmr i).mode.wf 32 = true)
    (htables : s.Inv → ∀ c, (t.clut c).table.wf s.par.clutEntries = true) : s.keepsInv t := by
  intro hs
  have hpar : t.par = s.par := by rw [h]
  refine ⟨{
    parameters := hpar ▸ hs.parameters
    canonical := ⟨fun p => ?_, hpar ▸ htables hs, hmodes hs, by rw [h]; rfl⟩
    reserved := by
      rw [h]
      exact ⟨BitVec.zero_and, (by decide : (0x260 : W32) &&& ~~~0x3FFFF = 0), BitVec.zero_and, BitVec.zero_and,
        fun i => by cases i <;> exact BitVec.zero_and, BitVec.zero_and⟩
    indices := by rw [h]; exact ⟨fun c => by cases c <;> exact hs.clutEntries_pos, hs.tramWords_pos⟩
    transfer := by rw [h]; exact Xfer.reset_cursorInside
    window := by rw [h]; exact fun hd => absurd hd Bool.noConfusion
    count := by rw [h]; exact Nat.zero_le _ }, hpar⟩
  rw [h]
  cases p <;> rfl

theorem hardReset_keepsInv (s : State) : s.keepsInv (hardReset s) :=
  State.keepsInv_of_reset rfl (fun _ i => by cases i <;> rfl) (fun _ c => by cases c <;> rfl)

theorem softReset_keepsInv (s : State) : s.keepsInv (softReset s) :=
  State.keepsInv_of_reset rfl (fun hs i => by cases i; exacts [hs.mode_wf .zero, hs.mode_wf .one])
    (fun hs c => by cases c; exacts [hs.table_wf .zero, hs.table_wf .one])

/-! ## The step -/

theorem effect_keepsInv {r : Request} {s t : State} (h : Effect r s t) : s.keepsInv t := by
  cases h with
  | read q => exact hostRead_keepsInv q s
  | write q v m => exact hostWrite_keepsInv q v m s
  | writeGo q v m => exact (hostWrite_keepsInv q v m s).trans (go_keepsInv _)
  | nothing => exact s.keepsInv_refl
  | command k => exact (endTransfer_keepsInv s).trans (commandOf_keepsInv k _)
  | dcbWrite slave reg => exact dcbWriteTo_keepsInv slave reg s
  | dcbRead slave reg => exact dcbReadFrom_keepsInv slave reg s
  | answers e => exact s.keepsInv_emit e
  | decodes e => exact (ensureDecoded_keepsInv s).trans (State.keepsInv_emit _ e)
  | beginLine y => exact beginLine_keepsInv y s
  | nextEntry => exact nextDidEntry_keepsInv s
  | timeout => exact dcbTimeout_keepsInv s
  | hardReset => exact hardReset_keepsInv s
  | softReset => exact softReset_keepsInv s

/-- Settles O60, by the effect of the request the step takes. -/
theorem stepKeepsInv : Obligations.StepKeepsInv := by
  intro s t hs h
  obtain ⟨-, rfl⟩ | ⟨r, rest, -, he⟩ := step_next h
  · have hidle : s.keepsInv s.idle := State.keepsInv_of_unread rfl
    exact hidle.trans (dcbTimeout_keepsInv _) hs
  · have htaking : s.keepsInv (s.taking rest) := State.keepsInv_of_unread rfl
    exact htaking.trans (effect_keepsInv he) hs

end Sys2Proof.Machine

/-! # The command engine (41_command_engine.md)

What the commands do and leave unchanged, position by position for the blocks, and the pixels a host transfer moves. -/

namespace Sys2Proof.Machine

/-! ## HOSTDATA (R127, R128, R174) -/

theorem merge_zero_mask {w : Nat} (old v : BitVec w) : merge old v 0 = old := by simp [merge]

theorem exec_r64Hostdata (s : State) : exec .r64Hostdata s = .next (readHostdata s) := by rfl

/-- Under the mask 0, too, HOSTDATA is the merged value: no lane is taken from the write. -/
theorem exec_w64Hostdata_of_no_transfer {v m : W64} {s : State} (h : ¬ (s.xf.active = true ∧ s.xf.dir = .hostToFrame)) :
    exec (.w64Hostdata v m) s = .next (s.setHostdata (merge s.hostdata v m)) := by
  have hstore : writeHostdata v m s = s.setHostdata (merge s.hostdata v m) := if_neg (by simpa using h)
  show Host.Outcome.next (whenMasked m (writeHostdata v m) s) = _
  by_cases hm : m = 0
  · subst hm
    rw [merge_zero_mask]
    rfl
  · rw [whenMasked_of_ne_zero hm, hstore]

theorem exec_w64Hostdata_of_transfer {v m : W64} {s : State} (hm : m ≠ 0) (ha : s.xf.active = true)
    (hd : s.xf.dir = .hostToFrame) :
    exec (.w64Hostdata v m) s = .next (hostConsume (s.setHostdata (merge s.hostdata v m))) := by
  have hconsume : writeHostdata v m s = hostConsume (s.setHostdata (merge s.hostdata v m)) := if_pos (by simp [ha, hd])
  rw [← hconsume, ← whenMasked_of_ne_zero hm (writeHostdata v m) s]
  rfl

theorem readHostdata_of_no_transfer {s : State} (h : ¬ (s.xf.active = true ∧ s.xf.dir = .frameToHost)) :
    readHostdata s = reply64 s.hostdata s := by
  unfold readHostdata
  rw [if_neg (by simpa using h)]

theorem readHostdata_of_transfer {s : State} (ha : s.xf.active = true) (hd : s.xf.dir = .frameToHost) :
    readHostdata s = reply64 (hostProduce s).2 ((hostProduce s).1.setHostdata (hostProduce s).2) := by
  unfold readHostdata
  rw [if_pos (by simp [ha, hd])]
  rfl

/-- Settles O18: outside a transfer in its direction an access moves no pixel. -/
theorem hostdataStoreOnly : Obligations.HostdataStoreOnly := by
  intro v m s
  refine ⟨exec_w64Hostdata_of_no_transfer, fun h => ?_⟩
  rw [exec_r64Hostdata, readHostdata_of_no_transfer h]
  rfl

/-! ## The pixels of one access (R169, R172) -/

theorem hostConsume_one {s : State} (hw : s.wpack = false) : hostConsume s = consumeWord (s.hostdata.extractLsb' 0 32) s :=
  if_neg (by simp [hw])

theorem hostConsume_two {s : State} (hw : s.wpack = true) :
    hostConsume s = consumeWord (s.hostdata.extractLsb' 0 32) (consumeWord (s.hostdata.extractLsb' 32 32) s) := if_pos hw

/-- Settles O21: each word is one pixel while the transfer is active, and is ignored once it has ended. -/
theorem hostConsume_holds : Obligations.HostConsume := by
  intro v m s hm ha hd h s1
  refine ⟨hostConsume s1, exec_w64Hostdata_of_transfer hm ha hd, fun hw => ?_, fun hw => ?_⟩
  · rw [hostConsume_one (s := s1) hw]
    exact consumeWord_movesIn _ ha
  · refine ⟨consumeWord (h.extractLsb' 32 32) s1, consumeWord_movesIn _ ha, ?_⟩
    rw [hostConsume_two (s := s1) hw]
    split
    · exact consumeWord_movesIn _ ‹_›
    · exact consumeWord_ended _ (Bool.eq_false_iff.2 ‹_›)

theorem hostProduce_one {s : State} (ha : s.xf.active = true) (hr : s.rpack = false) :
    hostProduce s = (s.pixelMovedOut, 0#32 ++ s.pixelOut) := by
  simp [hostProduce, produceWord_movesOut ha, hr]

theorem hostProduce_two {s : State} (ha : s.xf.active = true) (hr : s.rpack = true) (ht : s.pixelMovedOut.xf.active = true) :
    hostProduce s = (s.pixelMovedOut.pixelMovedOut, s.pixelOut ++ s.pixelMovedOut.pixelOut) := by
  simp [hostProduce, produceWord_movesOut ha, produceWord_movesOut ht, hr]

/-- The last pixel of a transfer leaves the second half of a packed word 0. -/
theorem hostProduce_last {s : State} (ha : s.xf.active = true) (hr : s.rpack = true)
    (ht : s.pixelMovedOut.xf.active = false) : hostProduce s = (s.pixelMovedOut, s.pixelOut ++ 0#32) := by
  simp [hostProduce, produceWord_movesOut ha, produceWord_ended ht, hr]

/-- Settles O22, by how many pixels are left to the word that `hostProduce` assembles. -/
theorem hostProduce_holds : Obligations.HostProduce := by
  intro s ha hd t
  rw [exec_r64Hostdata, readHostdata_of_transfer ha hd]
  refine ⟨fun hr => ?_, fun hr ht => ?_, fun hr ht => ?_⟩
  · rw [hostProduce_one ha hr]; rfl
  · rw [hostProduce_two ha hr ht]; rfl
  · rw [hostProduce_last ha hr ht]; rfl

/-! ## The transfer (R168, R170) -/

/-- Settles O20: a HOST row replaces XF and CURXY in the state whose transfer has ended. -/
theorem hostSetup : Obligations.HostSetup := fun _ _ => ⟨⟨rfl, rfl, rfl, rfl, rfl, rfl⟩, rfl, rfl⟩

theorem toward_last (a b : Int) : toward a b (b - a).natAbs = b := by
  unfold toward
  split <;> omega

/-- The last position of a rectangle is its second corner. -/
theorem block_last (w h : Nat) : ((w + 1) * (h + 1) - 1) % (w + 1) = w ∧ ((w + 1) * (h + 1) - 1) / (w + 1) = h := by
  have e : (w + 1) * (h + 1) - 1 = (w + 1) * h + w := by rw [Nat.mul_succ]; omega
  rw [e]
  exact ⟨by rw [Nat.mul_add_mod, Nat.mod_eq_of_lt w.lt_succ_self],
    by rw [Nat.mul_add_div w.succ_pos, Nat.div_eq_of_lt w.lt_succ_self, Nat.add_zero]⟩

/-- The advance from the second corner ends the transfer (R170). -/
theorem Xfer.advance_active_of_last {f : Xfer} (hx : f.hx = f.x1) (hy : f.hy = f.y1) : f.advance.active = false := by
  simp [Xfer.advance, hx, hy]

/-- As many advances as the rectangle has positions end a transfer that starts at the first corner. -/
theorem Xfer.advance_iter_size_active {f : Xfer} (ha : f.active = true) (hx : f.hx = f.x0) (hy : f.hy = f.y0)
    (hsx : f.sx = signToward f.x0 f.x1) (hsy : f.sy = signToward f.y0 f.y1) :
    (Xfer.advance^[((f.x1 - f.x0).natAbs + 1) * ((f.y1 - f.y0).natAbs + 1)] f).active = false := by
  obtain ⟨hcol, hrow⟩ := block_last (f.x1 - f.x0).natAbs (f.y1 - f.y0).natAbs
  have hpos : 0 < ((f.x1 - f.x0).natAbs + 1) * ((f.y1 - f.y0).natAbs + 1) := Nat.mul_pos (Nat.succ_pos _) (Nat.succ_pos _)
  have hlast := Xfer.advance_iter ha hx hy hsx hsy _ (Nat.sub_one_lt hpos.ne')
  rw [hcol, hrow, toward_last, toward_last] at hlast
  rw [← Nat.sub_one_add_one hpos.ne', Function.iterate_succ_apply', hlast]
  exact Xfer.advance_active_of_last rfl rfl

/-- Settles O23: HOST starts the cursor at the first corner, from which `Xfer.advance_iter` gives every position. -/
theorem transferVisitsRectangle : Obligations.TransferVisitsRectangle := by
  intro c s
  refine ⟨goCommand (cmdHost .hostToFrame) s, rfl, fun n hn => ?_, ?_⟩
  · have hcursor := Xfer.advance_iter (f := (goCommand (cmdHost .hostToFrame) s).xf) rfl rfl rfl rfl rfl n hn
    rw [hcursor]
    exact ⟨rfl, rfl, rfl⟩
  · exact Xfer.advance_iter_size_active (f := (goCommand (cmdHost .hostToFrame) s).xf) rfl rfl rfl rfl rfl

/-! ## What a command leaves (R153, R163, R166) -/

/-- Settles O24: each of these rows is `cmdNop` after the end of the transfer. -/
theorem nopAndReserved : Obligations.NopAndReserved := fun _ _ _ => ⟨rfl, rfl, rfl, rfl⟩

/-- `s` after a command that visited `n` positions with the accumulators advancing, ended at (x, y) and left the planes `q`. -/
def State.drewTo (s : State) (n : Nat) (q : Planes) (x y : Int) : State :=
  { s.transferEnded with planes := q, ce := { (s.advancedBy n).ce with curxy := packXY x y } }

theorem State.advancedBy_endTransfer (s : State) (n : Nat) :
    ((endTransfer s).advancedBy n).ce = (s.advancedBy n).ce ∧
      ((endTransfer s).advancedBy n).hostdata = (s.advancedBy n).hostdata := by
  have hsrc : (endTransfer s).colorsrc = s.colorsrc := rfl
  unfold State.advancedBy
  rw [hsrc]
  split <;> exact ⟨rfl, rfl⟩

theorem State.advancedBy_ce (s : State) (n : Nat) :
    (s.advancedBy n).ce = { s.ce with
      red := (s.advancedBy n).ce.red, green := (s.advancedBy n).ce.green, blue := (s.advancedBy n).ce.blue,
      alpha := (s.advancedBy n).ce.alpha, zacc := (s.advancedBy n).ce.zacc } :=
  congrArg State.ce (State.advancedBy_onlyDrew s n)

/-- Visits of any positions, then CURXY: the registers in closed form. -/
theorem setCurxy_inOrder_visit (xs ys : Nat → Int) (n : Nat) (s : State) (x y : Int) :
    (inOrder (fun k => visit (xs k) (ys k)) n (endTransfer s)).setReg .curxy (packXY x y) =
      s.drewTo n (inOrder (fun k => visit (xs k) (ys k)) n (endTransfer s)).planes x y := by
  have h := inOrder_visit_eq xs ys n (endTransfer s)
  rw [(s.advancedBy_endTransfer n).1] at h
  exact congrArg (State.setReg · .curxy (packXY x y)) h

theorem cmdPixel_drewTo (s : State) : goCommand cmdPixel s = s.drewTo 1 (goCommand cmdPixel s).planes s.x0 s.y0 :=
  setCurxy_inOrder_visit (fun _ => s.x0) (fun _ => s.y0) 1 s s.x0 s.y0

/-! ### The blocks, visit by visit (R159) -/

/-- How many columns the rectangle of X0, Y0, X1, Y1 has. -/
def State.blockWidth (s : State) : Nat := (s.x1 - s.x0).natAbs + 1

/-- How many rows it has. -/
def State.blockHeight (s : State) : Nat := (s.y1 - s.y0).natAbs + 1

/-- The x of its k-th position, row by row. -/
def State.blockX (s : State) (k : Nat) : Int := toward s.x0 s.x1 (k % s.blockWidth)

/-- The y of its k-th position. -/
def State.blockY (s : State) (k : Nat) : Int := toward s.y0 s.y1 (k / s.blockWidth)

/-- The transfer ended, then the first `k` positions of the rectangle visited. -/
def State.blockRun (s : State) (body : Int → Int → State → State) (k : Nat) : State :=
  inOrder (fun k => body (s.blockX k) (s.blockY k)) k (endTransfer s)

theorem blockIter_endTransfer (body : Int → Int → State → State) (s : State) :
    blockIter body s.x0 s.y0 s.x1 s.y1 (endTransfer s) = s.blockRun body (s.blockWidth * s.blockHeight) :=
  blockIter_eq ..

theorem goCommand_cmdBlockFill (s : State) :
    goCommand cmdBlockFill s =
      (s.blockRun visit (s.blockWidth * s.blockHeight)).setReg .curxy (packXY s.x1 s.y1) :=
  congrArg (State.setReg · .curxy (packXY s.x1 s.y1)) (blockIter_endTransfer visit s)

theorem goCommand_cmdBlockCopy (s : State) :
    goCommand cmdBlockCopy s =
      (s.blockRun copyVisit (s.blockWidth * s.blockHeight)).setReg .curxy (packXY s.x1 s.y1) :=
  congrArg (State.setReg · .curxy (packXY s.x1 s.y1)) (blockIter_endTransfer copyVisit s)

theorem cmdBlockFill_drewTo (s : State) :
    goCommand cmdBlockFill s = s.drewTo (s.blockWidth * s.blockHeight) (goCommand cmdBlockFill s).planes s.x1 s.y1 := by
  rw [goCommand_cmdBlockFill]
  exact setCurxy_inOrder_visit ..

theorem State.blockRun_copyVisit (s : State) (k : Nat) :
    s.blockRun copyVisit k = { endTransfer s with planes := (s.blockRun copyVisit k).planes } :=
  inOrder_copyVisit_eq ..

/-- No copy visit advances the accumulators (R160). -/
theorem cmdBlockCopy_drewTo (s : State) :
    goCommand cmdBlockCopy s = s.drewTo 0 (goCommand cmdBlockCopy s).planes s.x1 s.y1 := by
  rw [goCommand_cmdBlockCopy, s.blockRun_copyVisit, State.drewTo, s.advancedBy_zero]
  rfl

theorem State.mem_block_iff (s : State) (u v : Int) :
    within s.x0 s.x1 u ∧ within s.y0 s.y1 v ↔
      ∃ k < s.blockWidth * s.blockHeight, u = s.blockX k ∧ v = s.blockY k :=
  within_iff_visited ..

theorem State.block_injective (s : State) {j k : Nat} (h : j < k) :
    ¬ (s.blockX j = s.blockX k ∧ s.blockY j = s.blockY k) := block_distinct _ _ _ _ _ h

/-- The position in column i of row j is the (j w + i)-th (R159). -/
theorem State.block_at (s : State) {i j : Nat} (hi : i < s.blockWidth) (hj : j < s.blockHeight) :
    j * s.blockWidth + i < s.blockWidth * s.blockHeight ∧ s.blockX (j * s.blockWidth + i) = toward s.x0 s.x1 i ∧
      s.blockY (j * s.blockWidth + i) = toward s.y0 s.y1 j := by
  have hw : 0 < s.blockWidth := Nat.zero_lt_of_lt hi
  refine ⟨?_, ?_, ?_⟩
  · calc j * s.blockWidth + i < (j + 1) * s.blockWidth := by rw [Nat.add_mul]; omega
      _ ≤ s.blockHeight * s.blockWidth := Nat.mul_le_mul_right _ hj
      _ = s.blockWidth * s.blockHeight := Nat.mul_comm ..
  · rw [State.blockX, Nat.mul_add_mod', Nat.mod_eq_of_lt hi]
  · rw [State.blockY, Nat.mul_comm, Nat.mul_add_div hw, Nat.div_eq_of_lt hi, Nat.add_zero]

/-! ### The frame of every command (R166, R167) -/

/-- What a command that has moved from `s` to `t` may have written: BRES registers only where `line`, XF beyond the end of the
transfer only where `host`. -/
structure CommandWrites (line host : Prop) (s t : State) : Prop where
  frame : s.onlyCommanded t
  bres : ¬ line → t.ce.bresErr = s.ce.bresErr ∧ t.ce.bresInc1 = s.ce.bresInc1 ∧ t.ce.bresInc2 = s.ce.bresInc2 ∧
    t.ce.bresCount = s.ce.bresCount ∧ t.ce.bresOctant = s.ce.bresOctant
  xf : ¬ host → t.xf = { s.xf with active := false }

theorem CommandWrites.of_endTransfer (line host : Prop) (s : State) : CommandWrites line host s (endTransfer s) :=
  ⟨rfl, fun _ => ⟨rfl, rfl, rfl, rfl, rfl⟩, fun _ => rfl⟩

theorem CommandWrites.of_drewTo {line host : Prop} {s t : State} {n : Nat} {q : Planes} {x y : Int}
    (h : t = s.drewTo n q x y) : CommandWrites line host s t := by
  rw [h, State.drewTo, s.advancedBy_ce n]
  exact ⟨rfl, fun _ => ⟨rfl, rfl, rfl, rfl, rfl⟩, fun _ => rfl⟩

theorem CommandWrites.of_cmdLine {line : Prop} (hline : line) (host : Prop) (s : State) :
    CommandWrites line host s (goCommand cmdLine s) := by
  have heq : goCommand cmdLine s = _ := bresenhamLine_eq s.x0 s.y0 s.x1 s.y1 (endTransfer s) (coordinateOk_hiInt _)
    (coordinateOk_hiInt _) (coordinateOk_hiInt _) (coordinateOk_hiInt _)
  rw [heq]
  dsimp only
  rw [(endTransfer s).advancedBy_ce]
  exact ⟨rfl, fun h => absurd hline h, fun _ => rfl⟩

theorem CommandWrites.of_cmdHost (line : Prop) {host : Prop} (hhost : host) (dir : XferDir) (s : State) :
    CommandWrites line host s (goCommand (cmdHost dir) s) :=
  ⟨rfl, fun _ => ⟨rfl, rfl, rfl, rfl, rfl⟩, fun h => absurd hhost h⟩

/-- The command a key selects, case by case of R90. -/
theorem CommandWrites.of_commandOf (k : BitVec 5) (s : State) :
    CommandWrites (k.extractLsb' 0 3 = 2#3) (k.extractLsb' 0 3 = 4#3) s (commandOf k (endTransfer s)) := by
  unfold commandOf
  split
  · exact .of_endTransfer ..
  · exact .of_drewTo (cmdPixel_drewTo s)
  · exact .of_cmdLine (BitVec.eq_of_toNat_eq ‹_›) _ s
  · split
    · exact .of_drewTo (cmdBlockCopy_drewTo s)
    · exact .of_drewTo (cmdBlockFill_drewTo s)
  · split <;> exact .of_cmdHost _ (BitVec.eq_of_toNat_eq ‹_›) _ s
  · exact .of_endTransfer ..

/-- Settles O25, from the closed forms of the commands. -/
theorem commandFrame : Obligations.CommandFrame := by
  intro k s
  obtain ⟨hframe, hbres, hxf⟩ := CommandWrites.of_commandOf k s
  exact ⟨_, exec_decodeCommand k s, hframe, hbres, hxf⟩

/-! ## PIXEL (R155) -/

theorem storedAt_plot (x y : Int) (src : PlaneId → W32) (s : State) : s.storedAt (plot x y src s) x y src := by
  intro p u w
  rw [planeRead_plot]
  exact if_congr (by tauto) rfl rfl

theorem storedAt_visit (x y : Int) (s : State) : s.storedAt (visit x y s) x y (fun _ => fillSource s) := by
  intro p u w
  rw [planeRead_visit]
  exact if_congr (by tauto) rfl rfl

/-- COLORSRC 0 and the reserved 3 take COLORI (R188). -/
theorem fillSource_flat {s : State} (h : s.colorsrc = 0 ∨ s.colorsrc = 3) : fillSource s = s.ce.colori := by
  obtain h | h := h <;> simp [fillSource, h]

theorem fillSource_shaded {s : State} (h : s.colorsrc = 1) : fillSource s = shadedValue s := by
  simp [fillSource, h]

theorem fillSource_host {s : State} (h : s.colorsrc = 2) :
    fillSource s = hostSource s (swapHost s (s.hostdata.extractLsb' 0 32)) := by
  simp [fillSource, h]

/-- Settles O26: PIXEL is one visit, then CURXY; the fields are the bits they are defined as; the source is `fillSource`'s case
for the code. -/
theorem pixelStore : Obligations.PixelStore := by
  intro c d s
  refine ⟨⟨goCommand cmdPixel s, rfl, storedAt_visit s.x0 s.y0 (endTransfer s), cmdPixel_drewTo s⟩,
    ⟨fun _ => rfl, rfl, rfl, rfl, rfl, rfl, rfl, rfl, rfl⟩, ?_⟩
  have colorsrc_of_code {n : BitVec 2} (h : s.ce.drawmode0.extractLsb' 9 2 = n) : s.colorsrc = n.toNat :=
    congrArg BitVec.toNat h
  refine ⟨fun h => fillSource_flat (h.imp colorsrc_of_code colorsrc_of_code), fun h hrgb => ?_, fun h hci => ?_,
    fun h => fillSource_host (colorsrc_of_code h)⟩
  · exact (fillSource_shaded (colorsrc_of_code h)).trans (if_pos hrgb)
  · exact (fillSource_shaded (colorsrc_of_code h)).trans (if_neg (by rw [State.rgbMode, hci]; exact Bool.false_ne_true))

/-! ## BLOCK fill (R161 to R163) -/

/-- What a fill leaves in the planes: its k-th position takes the source after k advances, every other cell stays. -/
theorem planeRead_blockRun_visit (s : State) :
    (∀ k < s.blockWidth * s.blockHeight, ∀ p,
      planeRead (s.blockRun visit (s.blockWidth * s.blockHeight)) p (s.blockX k) (s.blockY k) =
        if positionPass s (s.blockX k) (s.blockY k) = true ∧ s.planeEnabled p = true
        then storeValue (s.advancedBy k) (planeRead s p (s.blockX k) (s.blockY k)) (fillSource (s.advancedBy k))
        else planeRead s p (s.blockX k) (s.blockY k)) ∧
    ∀ p u v, ¬ (within s.x0 s.x1 u ∧ within s.y0 s.y1 v) →
      planeRead (s.blockRun visit (s.blockWidth * s.blockHeight)) p u v = planeRead s p u v := by
  obtain ⟨inside, outside⟩ := planeRead_inOrder_visit s.blockX s.blockY (s.blockWidth * s.blockHeight) (endTransfer s)
    fun _ _ h _ => s.block_injective h
  refine ⟨fun k hk p => ?_, fun p u v huv => outside p u v fun k hk heq => huv ((s.mem_block_iff u v).2 ⟨k, hk, heq⟩)⟩
  obtain ⟨hce, hhost⟩ := s.advancedBy_endTransfer k
  have hk' := inside k hk p
  rw [storeValue_congr hce, fillSource_congr hce hhost] at hk'
  exact hk'

/-- Settles O35: the visits of the rectangle, then CURXY. -/
theorem blockFillDraws : Obligations.BlockFillDraws := by
  intro d s
  obtain ⟨inside, outside⟩ := planeRead_blockRun_visit s
  have hplanes : ∀ p u v, planeRead (goCommand cmdBlockFill s) p u v =
      planeRead (s.blockRun visit (s.blockWidth * s.blockHeight)) p u v :=
    fun p u v => by rw [goCommand_cmdBlockFill]; rfl
  refine ⟨goCommand cmdBlockFill s, rfl, fun i j hi hj p => ?_, fun p u v huv => ?_, cmdBlockFill_drewTo s⟩
  · obtain ⟨hk, hx, hy⟩ := s.block_at hi hj
    have hcell := inside _ hk p
    rw [hx, hy] at hcell
    exact (hplanes ..).trans hcell
  · exact (hplanes ..).trans (outside p u v huv)

/-! ## BLOCK copy (R160, R162) -/

/-- What a copy leaves in the planes: a cell outside the destination rectangle stays, and where no source cell is a destination
each destination takes its source cell. -/
theorem planeRead_blockRun_copyVisit (s : State) :
    (∀ p u v, ¬ (within s.x0 s.x1 (u - s.moveX) ∧ within s.y0 s.y1 (v - s.moveY)) →
      planeRead (s.blockRun copyVisit (s.blockWidth * s.blockHeight)) p u v = planeRead s p u v) ∧
    ((∀ u v, within s.x0 s.x1 u → within s.y0 s.y1 v →
        ¬ (within s.x0 s.x1 (u - s.moveX) ∧ within s.y0 s.y1 (v - s.moveY))) →
      ∀ p u v, within s.x0 s.x1 u → within s.y0 s.y1 v →
        planeRead (s.blockRun copyVisit (s.blockWidth * s.blockHeight)) p (u + s.moveX) (v + s.moveY) =
          if positionPass s (u + s.moveX) (v + s.moveY) = true ∧ s.planeEnabled p = true
          then storeValue s (planeRead s p (u + s.moveX) (v + s.moveY)) (planeRead s p u v &&& ones s.depth.db)
          else planeRead s p (u + s.moveX) (v + s.moveY)) := by
  obtain ⟨outside, inside⟩ :=
    planeRead_inOrder_copyVisit s.blockX s.blockY (s.blockWidth * s.blockHeight) (endTransfer s)
  constructor
  · refine fun p u v huv => outside p u v fun k hk ⟨hu, hv⟩ => huv ((s.mem_block_iff _ _).2 ⟨k, hk, ?_, ?_⟩)
    · exact sub_eq_of_eq_add hu
    · exact sub_eq_of_eq_add hv
  · intro apart p u v hu hv
    obtain ⟨k, hk, rfl, rfl⟩ := (s.mem_block_iff u v).1 ⟨hu, hv⟩
    refine inside (fun _ _ h _ => s.block_injective h) (fun i hi j hj ⟨hx, hy⟩ => ?_) k hk p
    obtain ⟨hxi, hyi⟩ := (s.mem_block_iff _ _).2 ⟨i, hi, rfl, rfl⟩
    exact apart _ _ hxi hyi ((s.mem_block_iff _ _).2 ⟨j, hj, sub_eq_of_eq_add hx, sub_eq_of_eq_add hy⟩)

/-- One visit of a copy stores the source cell as the visits before left it (R160). -/
theorem storedAt_blockRun_copyVisit (s : State) (k : Nat) :
    (s.blockRun copyVisit k).storedAt (s.blockRun copyVisit (k + 1)) (s.blockX k + s.moveX) (s.blockY k + s.moveY)
      (fun p => planeRead (s.blockRun copyVisit k) p (s.blockX k) (s.blockY k) &&& ones s.depth.db) := by
  have hce : (s.blockRun copyVisit k).ce = s.ce := by rw [s.blockRun_copyVisit]; rfl
  have hoperands : (s.blockRun copyVisit k).moveX = s.moveX ∧ (s.blockRun copyVisit k).moveY = s.moveY ∧
      (s.blockRun copyVisit k).depth = s.depth := by
    unfold State.moveX State.moveY State.depth
    rw [hce]
    exact ⟨rfl, rfl, rfl⟩
  obtain ⟨hx, hy, hdepth⟩ := hoperands
  rw [← hx, ← hy, ← hdepth]
  exact storedAt_plot _ _ _ (s.blockRun copyVisit k)

/-- Settles O36: the copy is `State.blockRun copyVisit`, visit by visit, then CURXY. -/
theorem blockCopyCopies : Obligations.BlockCopyCopies := by
  intro d s
  obtain ⟨outside, inside⟩ := planeRead_blockRun_copyVisit s
  have hplanes : ∀ p u v, planeRead (goCommand cmdBlockCopy s) p u v =
      planeRead (s.blockRun copyVisit (s.blockWidth * s.blockHeight)) p u v :=
    fun p u v => by rw [goCommand_cmdBlockCopy]; rfl
  have hframe := cmdBlockCopy_drewTo s
  rw [State.drewTo, s.advancedBy_zero] at hframe
  refine ⟨goCommand cmdBlockCopy s, rfl, hframe, fun p u v huv => (hplanes ..).trans (outside p u v huv),
    fun apart p u v hu hv => (hplanes ..).trans (inside apart p u v hu hv), s.blockRun copyVisit, rfl, ?_, fun k _ => ?_⟩
  · rw [goCommand_cmdBlockCopy]
    rfl
  · exact ⟨copyVisit_eq .., storedAt_blockRun_copyVisit s k⟩

end Sys2Proof.Machine

/-! # The pixel pipeline (42_pixel_pipeline.md)

Which cells a pixel store changes and to what, bit by bit, and the two raster operations. -/

namespace Sys2Proof.Machine

/-! ## The position tests (R182, R183, R186) -/

theorem clipPass_iff (s : State) (x y : Int) :
    clipPass s x y = true ↔
      hiInt s.ce.clipmin ≤ x ∧ x ≤ hiInt s.ce.clipmax ∧ loInt s.ce.clipmin ≤ y ∧ y ≤ loInt s.ce.clipmax := by
  simp only [clipPass, Bool.and_eq_true, decide_eq_true_eq, and_assoc]

theorem boundsPass_iff (s : State) (x y : Int) :
    boundsPass s x y = true ↔ 0 ≤ x ∧ x < s.par.fbW ∧ 0 ≤ y ∧ y < s.par.fbH := by
  simp only [boundsPass, Bool.and_eq_true, decide_eq_true_eq, and_assoc]

/-- The registers of both patterns, as the lists that PATSEL indexes (R33). -/
theorem stipple_rows (s : State) {k : Nat} (hk : k < 5) :
    stipX s k = [s.ce.stipx0, s.ce.stipx1, s.ce.stipx2, s.ce.stipx3, s.ce.stipx4].getD k 0 ∧
      stipY s k = [s.ce.stipy0, s.ce.stipy1, s.ce.stipy2, s.ce.stipy3, s.ce.stipy4].getD k 0 := by
  match k, hk with
  | 0, _ | 1, _ | 2, _ | 3, _ | 4, _ => exact ⟨rfl, rfl⟩

theorem stipplePass_iff (s : State) (x y : Int) :
    stipplePass s x y = true ↔ s.stipen = false ∨ 5 ≤ s.patsel ∨
      ((stipX s s.patsel).getLsbD (x % 32).toNat = true ∧ (stipY s s.patsel).getLsbD (y % 32).toNat = true) := by
  cases hen : s.stipen
  · simp [stipplePass, hen]
  · by_cases hsel : 5 ≤ s.patsel <;> simp [stipplePass, hen, hsel]

/-- The stipple test where PATSEL selects a row; 5 and above select none. -/
theorem stipplePass_iff_rows (s : State) (x y : Int) :
    stipplePass s x y = true ↔ s.stipen = false ∨ 5 ≤ s.patsel ∨
      (([s.ce.stipx0, s.ce.stipx1, s.ce.stipx2, s.ce.stipx3, s.ce.stipx4].getD s.patsel 0).getLsbD (x % 32).toNat = true ∧
        ([s.ce.stipy0, s.ce.stipy1, s.ce.stipy2, s.ce.stipy3, s.ce.stipy4].getD s.patsel 0).getLsbD (y % 32).toNat = true) := by
  rw [stipplePass_iff]
  by_cases hsel : 5 ≤ s.patsel
  · simp only [hsel, true_or, or_true]
  · obtain ⟨hx, hy⟩ := stipple_rows s (Nat.lt_of_not_le hsel)
    rw [hx, hy]

theorem positionPass_iff (s : State) (x y : Int) :
    positionPass s x y = true ↔ clipPass s x y = true ∧ boundsPass s x y = true ∧ stipplePass s x y = true := by
  simp only [positionPass, Bool.and_eq_true, and_assoc]

/-! ## The store (R181, R184, R197) -/

/-- Settles O27: `planeRead_plot` gives every cell of the store, and the position passes its three tests. -/
theorem plotCells : Obligations.PlotCells := by
  intro s x y src
  refine ⟨⟨_, plot_eq x y src s⟩, ?_⟩
  intro p u w old ones r high low inClip inPlane row rowX rowY onPattern stored
  have htests : positionPass s x y = true ↔ inClip ∧ inPlane ∧ onPattern :=
    (positionPass_iff s x y).trans
      (and_congr (clipPass_iff s x y) (and_congr (boundsPass_iff s x y) (stipplePass_iff_rows s x y)))
  have hstored : stored ↔ positionPass s x y = true ∧ s.planeEnabled p = true ∧ u = x ∧ w = y := by
    rw [htests]
    show (u = x ∧ w = y) ∧ inClip ∧ inPlane ∧ onPattern ∧ s.planeEnabled p = true ↔ _
    tauto
  refine ⟨htests, fun h => ?_, fun h => ?_⟩
  · exact (planeRead_plot ..).trans (if_pos (hstored.1 h))
  · exact (planeRead_plot ..).trans (if_neg fun hpass => h (hstored.2 hpass))

theorem getLsbD_ones {i : Nat} (hi : i < 32) (n : Nat) : (ones n).getLsbD i = decide (i < n) := by
  rw [ones, BitVec.getLsbD_ofNat, Nat.testBit_two_pow_sub_one, decide_eq_true hi, Bool.true_and]

/-- Settles O28: the mask of a store is 1 at just the bits that the statement names. -/
theorem storeBits : Obligations.StoreBits := by
  intro s old src i hi depthMask
  have hmask : depthMask.getLsbD i = decide (i < s.depth.db) := getLsbD_ones hi _
  have hstore : storeValue s old src =
      (old &&& ~~~(s.ce.wrmask &&& depthMask)) |||
        ((rop s (src &&& depthMask) (old &&& depthMask) &&& depthMask) &&& (s.ce.wrmask &&& depthMask)) := rfl
  rw [hstore]
  simp only [BitVec.getLsbD_or, BitVec.getLsbD_and, BitVec.getLsbD_not, hmask, hi, decide_true, Bool.true_and]
  by_cases hdb : i < s.depth.db
  · cases hwr : s.ce.wrmask.getLsbD i <;> simp [hdb]
  · simp [hdb]

/-! ## The logic operation (R194) -/

/-- Settles O29: each LOGICOP bit guards the term that is 1 for its one pair of operand bits. -/
theorem logicOpBits : Obligations.LogicOpBits := by
  intro op a b i hi
  have getLsbD_guarded : ∀ (c : Bool) (v : W32), (if c then v else 0).getLsbD i = (c && v.getLsbD i) := by
    intro c v
    cases c <;> simp
  simp only [logicop, BitVec.getLsbD_or, getLsbD_guarded, BitVec.getLsbD_and, BitVec.getLsbD_not, hi, decide_true,
    Bool.true_and]
  cases a.getLsbD i <;> cases b.getLsbD i <;> simp

/-! ## Narrowing a widened channel (R232, R234, R235) -/

/-- Replication keeps the pattern in the top `n` bits, and fills 8 bits or more. -/
theorem repFill_top {v n : Nat} (hv : v < 2 ^ n) (hn : 0 < n) {fuel t len : Nat} (hlen : n ≤ len)
    (htop : t >>> (len - n) = v) (hfuel : 8 ≤ fuel + len) :
    8 ≤ (repFill v n fuel t len).2 ∧ n ≤ (repFill v n fuel t len).2 ∧
      (repFill v n fuel t len).1 >>> ((repFill v n fuel t len).2 - n) = v := by
  induction fuel generalizing t len with
  | zero => exact ⟨(Nat.zero_add len) ▸ hfuel, hlen, htop⟩
  | succ fuel ih =>
    unfold repFill
    split
    · have hshift : (t <<< n ||| v) >>> n = t := by
        rw [Nat.shiftRight_or_distrib, Nat.shiftLeft_shiftRight, Nat.shiftRight_eq_div_pow, Nat.div_eq_of_lt hv, Nat.or_zero]
      have hkeep : (t <<< n ||| v) >>> (len + n - n) = v := by
        rw [show len + n - n = n + (len - n) by omega, Nat.shiftRight_add, hshift, htop]
      exact ih (by omega) hkeep (by omega)
    · exact ⟨by omega, hlen, htop⟩

theorem narrow_rep {v n : Nat} (hv : v < 2 ^ n) (hn : 0 < n) (hn8 : n ≤ 8) : narrow (rep v n) n = v := by
  have hfirst : repFill v n 8 0 0 = repFill v n 7 v n := by simp [repFill]
  obtain ⟨h8, hlen, htop⟩ := repFill_top (fuel := 7) (t := v) (len := n) hv hn le_rfl (by simp) (by omega)
  unfold narrow rep
  simp only [hfirst]
  generalize repFill v n 7 v n = q at h8 hlen htop
  obtain ⟨t, len⟩ := q
  simp only at h8 hlen htop ⊢
  have hdrop : t >>> (len - 8) >>> (8 - n) = v := by
    rw [← Nat.shiftRight_add, show len - 8 + (8 - n) = len - n by omega, htop]
  have hbyte : t >>> (len - 8) < 2 ^ 8 := by
    rw [← hdrop, Nat.shiftRight_eq_div_pow _ (8 - n), Nat.div_lt_iff_lt_mul (Nat.two_pow_pos _), ← Nat.pow_add,
      Nat.add_sub_cancel' hn8] at hv
    exact hv
  rw [BitVec.toNat_ofNat, Nat.mod_eq_of_lt hbyte, hdrop]

theorem Depth.db_eq_widths (k : Depth) : k.db = k.wR + k.wG + k.wB := by cases k <;> rfl

theorem Depth.width_range (k : Depth) : (0 < k.wR ∧ k.wR ≤ 8) ∧ (0 < k.wG ∧ k.wG ≤ 8) ∧ (0 < k.wB ∧ k.wB ≤ 8) := by
  cases k <;> decide

theorem fieldAt_lt (v : W32) (lo n : Nat) : fieldAt v lo n < 2 ^ n := Nat.mod_lt _ (Nat.two_pow_pos n)

/-- The three fields of a value make up its low bits. -/
theorem storageOf_fields (k : Depth) (v : W32) :
    storageOf k (storageR k v) (storageG k v) (storageB k v) = BitVec.ofNat 32 (v.toNat % 2 ^ k.db) := by
  unfold storageOf storageR storageG storageB fieldAt
  rw [k.db_eq_widths, Nat.pow_add 2 (k.wR + k.wG), Nat.mod_mul, Nat.pow_add 2 k.wR, Nat.mod_mul]
  simp [Nat.mul_comm]

/-- Widening loses nothing: a value of the depth comes back from its channels. -/
theorem pack_expand {k : Depth} {v : W32} (hv : v.toNat < 2 ^ k.db) : pack k (expand k v) = v := by
  obtain ⟨⟨hR, hR8⟩, ⟨hG, hG8⟩, ⟨hB, hB8⟩⟩ := k.width_range
  have hr : narrow (expand k v).r k.wR = storageR k v := narrow_rep (fieldAt_lt ..) hR hR8
  have hg : narrow (expand k v).g k.wG = storageG k v := narrow_rep (fieldAt_lt ..) hG hG8
  have hb : narrow (expand k v).b k.wB = storageB k v := narrow_rep (fieldAt_lt ..) hB hB8
  rw [pack, hr, hg, hb, storageOf_fields, Nat.mod_eq_of_lt hv, BitVec.ofNat_toNat, BitVec.setWidth_eq]

/-! ## Blending (R191 to R193) -/

theorem sfactorOf_eq_getD (code dc sa : Nat) :
    sfactorOf code dc sa = [0, 255, sa, 255 - sa, dc, 255 - dc, 0, 0].getD code 0 := by
  match code with
  | 0 | 1 | 2 | 3 | 4 | 5 | 6 | 7 => rfl
  | _ + 8 => rfl

/-- Both weights are one table, read with the channel of the other operand. -/
theorem dfactorOf_eq_sfactorOf (code sc sa : Nat) : dfactorOf code sc sa = sfactorOf code sc sa := rfl

theorem channelOf_toNat (a : W32) : (channelOf a).toNat = (min (max (a.toInt / 65536) 0) 255).toNat :=
  Nat.mod_eq_of_lt (by omega)

/-- At the reset factors a channel of the source is weighed 255 and rounds to itself (R193). -/
theorem blendChannel_one_zero (sa : Nat) (sc dc : W8) : blendChannel 1 0 sa sc dc = sc := by
  have hround : min 255 ((sc.toNat * 255 + dc.toNat * 0 + 127) / 255) = sc.toNat := by
    have := sc.isLt
    omega
  apply BitVec.eq_of_toNat_eq
  show min 255 ((sc.toNat * 255 + dc.toNat * 0 + 127) / 255) % 2 ^ 8 = sc.toNat
  rw [hround, Nat.mod_eq_of_lt sc.isLt]

theorem blend_one_zero {s : State} {src : W32} (hs : s.sfactor = 1) (hd : s.dfactor = 0)
    (hsrc : src.toNat < 2 ^ s.depth.db) (dst : W32) : blend s src dst = src := by
  simp only [blend, hs, hd, blendChannel_one_zero]
  exact pack_expand hsrc

theorem rop_of_blends {s : State} (h : s.blendBit = true ∧ s.rgbMode = true) (src dst : W32) :
    rop s src dst = blend s src dst := if_pos (by simp [h])

theorem rop_of_not_blends {s : State} (h : ¬ (s.blendBit = true ∧ s.rgbMode = true)) (src dst : W32) :
    rop s src dst = logicop s.logicOp src dst := if_neg (by simpa using h)

/-- Settles O30: the weights are the factor table, and the reset factors keep every channel. -/
theorem blendOneZero : Obligations.BlendOneZero := by
  intro s src dst sfactor dfactor sa fs fd channel a b blends
  have hchannel : ∀ sc dc, blendChannel s.sfactor s.dfactor (channelOf s.ce.alpha).toNat sc dc = channel sc dc := by
    intro sc dc
    rw [blendChannel, dfactorOf_eq_sfactorOf, sfactorOf_eq_getD, sfactorOf_eq_getD, channelOf_toNat]
    rfl
  refine ⟨?_, fun hs hd hsrc => blend_one_zero hs hd hsrc dst, fun h => rop_of_blends h src dst,
    fun h => rop_of_not_blends h src dst⟩
  simp only [blend, hchannel]
  rfl

end Sys2Proof.Machine

/-! # The rasterizer (43_rasterizer.md)

The positions of the line stepper, the cells a LINE draws, and the registers it leaves. -/

namespace Sys2Proof.Machine

/-! ## The stepper's positions (R214, R215, R223) -/

/-- A line starts at its first position, also a line of length zero. -/
theorem LineSetup.pos_zero (l : LineSetup) : l.posX 0 = l.x0 ∧ l.posY 0 = l.y0 := by
  have hstart : l.minorAt 0 = 0 := by
    obtain hM | hM := Nat.eq_zero_or_pos l.major
    · simp [LineSetup.minorAt, hM]
    · exact LineSetup.minorAt_zero hM
  simp [LineSetup.posX, LineSetup.posY, hstart]

/-- A coordinate that counts steps in direction `d` moves as its count does. -/
theorem count_step (a d : Int) {m n : Nat} (h : n = m ∨ n = m + 1) :
    a + d * n = a + d * m ∨ a + d * n = a + d * m + d := by
  obtain rfl | rfl := h
  · exact .inl rfl
  · exact .inr (by push_cast; ring)

/-- From position to position the dominant coordinate changes by one, the other by zero or one (R214). -/
theorem LineSetup.pos_succ {l : LineSetup} (hm : l.minor ≤ l.major) (hM : 0 < l.major) (k : Nat) :
    if l.ymaj then l.posY (k + 1) = l.posY k + l.sy.toInt ∧
      (l.posX (k + 1) = l.posX k ∨ l.posX (k + 1) = l.posX k + l.sx.toInt)
    else l.posX (k + 1) = l.posX k + l.sx.toInt ∧
      (l.posY (k + 1) = l.posY k ∨ l.posY (k + 1) = l.posY k + l.sy.toInt) := by
  have hminor : l.minorAt (k + 1) = l.minorAt k ∨ l.minorAt (k + 1) = l.minorAt k + 1 := by
    rw [LineSetup.minorAt_succ_err hm hM k]
    split
    · exact .inr rfl
    · exact .inl rfl
  have hmajor : ∀ a d : Int, a + d * (k + 1 : Nat) = a + d * k + d := fun a d => by push_cast; ring
  unfold LineSetup.posX LineSetup.posY
  cases l.ymaj <;> exact ⟨hmajor .., count_step _ _ hminor⟩

/-- After k steps the stepper stands at the k-th position. -/
theorem lineRun_pos {l : LineSetup} (s : State) (hm : l.minor ≤ l.major) (hs : l.major ≤ 65535) {k : Nat}
    (hk : k ≤ l.major) :
    (lineRun l k (lineStart l s)).x = l.posX k ∧ (lineRun l k (lineStart l s)).y = l.posY k := by
  obtain hM | hM := Nat.eq_zero_or_pos l.major
  · obtain rfl : k = 0 := by omega
    obtain ⟨hx, hy⟩ := l.pos_zero
    exact ⟨hx.symm, hy.symm⟩
  · obtain ⟨hx, hy, -⟩ := lineRun_spec s hm hM hs hk
    exact ⟨hx, hy⟩

/-- The M-th position is the end point, also of a line of length zero. -/
theorem lineSetup_pos_major (x0 y0 x1 y1 : Int) :
    (lineSetup x0 y0 x1 y1).posX (lineSetup x0 y0 x1 y1).major = x1 ∧
      (lineSetup x0 y0 x1 y1).posY (lineSetup x0 y0 x1 y1).major = y1 := by
  obtain hM | hM := Nat.eq_zero_or_pos (lineSetup x0 y0 x1 y1).major
  · obtain ⟨rfl, rfl⟩ := lineSetup_zero hM
    rw [hM]
    exact LineSetup.pos_zero _
  · exact lineSetup_end hM

/-- Settles O31: the stepper stands at the closed-form positions, which have the stated properties. -/
theorem linePositions : Obligations.LinePositions := by
  intro s x0 y0 x1 y1 hx0 hy0 hx1 hy1 l pos
  obtain ⟨hm, hs⟩ := lineSetup_spans hx0 hy0 hx1 hy1
  have hpos : ∀ k, k ≤ l.major → (pos k).x = l.posX k ∧ (pos k).y = l.posY k := fun k hk => lineRun_pos s hm hs hk
  obtain ⟨hendX, hendY⟩ := lineSetup_pos_major x0 y0 x1 y1
  obtain ⟨hlastX, hlastY⟩ := hpos l.major le_rfl
  refine ⟨hpos, hlastX.trans hendX, hlastY.trans hendY, fun k hk => ?_, fun j k hjk hk => ?_⟩
  · obtain ⟨hx, hy⟩ := hpos k hk.le
    obtain ⟨hx', hy'⟩ := hpos (k + 1) hk
    rw [hx, hy, hx', hy']
    exact LineSetup.pos_succ hm (Nat.zero_lt_of_lt hk) k
  · obtain ⟨hxj, hyj⟩ := hpos j (hjk.le.trans hk)
    obtain ⟨hxk, hyk⟩ := hpos k hk
    rw [hxj, hyj, hxk, hyk]
    exact l.pos_distinct hjk

/-! ## What a LINE draws (R215, R216, R218) -/

/-- Settles O32: the end of the transfer, which no drawn value depends on, then the stores of the line. -/
theorem lineDraws : Obligations.LineDraws := by
  intro c d s
  obtain ⟨drawn, kept⟩ := planeRead_bresenhamLine s.x0 s.y0 s.x1 s.y1 (endTransfer s) (coordinateOk_hiInt _)
    (coordinateOk_hiInt _) (coordinateOk_hiInt _) (coordinateOk_hiInt _)
  refine ⟨goCommand cmdLine s, rfl, fun k hk p => ?_, kept⟩
  obtain ⟨hce, hhost⟩ := s.advancedBy_endTransfer k
  have hk' := drawn k hk p
  rw [storeValue_congr hce, fillSource_congr hce hhost] at hk'
  exact hk'

/-! ## What a LINE leaves in the registers (R212, R217, R220, R221) -/

/-- The octant code's direction bits are the signs of the deltas (R212). -/
theorem lineSetup_octant (x0 y0 x1 y1 : Int) :
    (lineSetup x0 y0 x1 y1).octant =
      0#29 ++ BitVec.ofBool (decide (y1 - y0 < 0)) ++ BitVec.ofBool (decide (x1 - x0 < 0)) ++
        BitVec.ofBool (decide ((x1 - x0).natAbs < (y1 - y0).natAbs)) := by
  have hsign : ∀ d : Int, ((if d < 0 then Sign.neg else Sign.pos) == Sign.neg) = decide (d < 0) := by
    intro d
    by_cases h : d < 0
    · simp only [h, if_true, decide_true]; rfl
    · simp only [h, if_false, decide_false]; rfl
  simp only [LineSetup.octant, lineSetup, hsign]

/-- Settles O33: the registers `bresenhamLine_eq` gives, the setup's fields written out. -/
theorem lineRegisters : Obligations.LineRegisters := by
  intro c d s
  refine ⟨goCommand cmdLine s, rfl, ?_⟩
  have hline := bresenhamLine_eq s.x0 s.y0 s.x1 s.y1 (endTransfer s) (coordinateOk_hiInt _) (coordinateOk_hiInt _)
    (coordinateOk_hiInt _) (coordinateOk_hiInt _)
  dsimp only at hline
  rw [(s.advancedBy_endTransfer _).1, lineSetup_octant] at hline
  simp only [← Nat.cast_ite]
  exact hline

/-- The setup of a zero-length line (R217). -/
theorem lineSetup_self (x y : Int) :
    lineSetup x y x y = { x0 := x, y0 := y, ymaj := false, major := 0, minor := 0, sx := .pos, sy := .pos } := by
  simp [lineSetup]

/-- The stepping parameters of a zero-length line are 0 (R217). -/
theorem loadBres_self (x y : Int) (s : State) :
    loadBres (lineSetup x y x y) s =
      { s with ce := { s.ce with bresErr := 0, bresInc1 := 0, bresInc2 := 0, bresCount := 0, bresOctant := 0 } } := by
  have hoctant : (lineSetup x y x y).octant = 0 := by
    rw [lineSetup_octant]
    simp
  rw [loadBres, hoctant, lineSetup_self]
  rfl

/-- A zero-length line is its setup, then CURXY: no position is visited (R217). -/
theorem bresenhamLine_self (x y : Int) (s : State) :
    bresenhamLine x y x y s = (loadBres (lineSetup x y x y) s).setReg .curxy (packXY x y) := by
  unfold bresenhamLine
  rw [lineSetup_self]
  rfl

/-- Settles O34, by the setup of a line whose end is its start. -/
theorem lineZeroLength : Obligations.LineZeroLength := by
  intro c d s hx hy
  show Host.Outcome.next (bresenhamLine s.x0 s.y0 s.x1 s.y1 (endTransfer s)) = _
  rw [hx, hy, bresenhamLine_self, loadBres_self]
  rfl

end Sys2Proof.Machine

/-! # The pixel formats (44_pixel_format.md)

Three fields side by side in a word, in storage and in host order; what widening and narrowing keep; the conversions built from
them. -/

namespace Sys2Proof.Machine

/-! ## Three fields in a word (R232, R233) -/

theorem two_fields_lt {l m lo mid : ℕ} (hlo : lo < 2 ^ l) (hmid : mid < 2 ^ m) : lo + mid * 2 ^ l < 2 ^ (l + m) := by
  calc lo + mid * 2 ^ l < 2 ^ l + mid * 2 ^ l := Nat.add_lt_add_right hlo _
    _ = (mid + 1) * 2 ^ l := by ring
    _ ≤ 2 ^ m * 2 ^ l := Nat.mul_le_mul_right _ hmid
    _ = 2 ^ (l + m) := by ring

/-- Fields put side by side within 32 bits are read back, each from its place. -/
theorem fieldAt_ofNat_fields {l m h lo mid hi : ℕ} (hlo : lo < 2 ^ l) (hmid : mid < 2 ^ m) (hhi : hi < 2 ^ h)
    (hw : l + m + h ≤ 32) :
    fieldAt (BitVec.ofNat 32 (lo + mid * 2 ^ l + hi * 2 ^ (l + m))) 0 l = lo ∧
      fieldAt (BitVec.ofNat 32 (lo + mid * 2 ^ l + hi * 2 ^ (l + m))) l m = mid ∧
        fieldAt (BitVec.ofNat 32 (lo + mid * 2 ^ l + hi * 2 ^ (l + m))) (l + m) h = hi := by
  have hlow : lo + mid * 2 ^ l < 2 ^ (l + m) := two_fields_lt hlo hmid
  have hword : lo + mid * 2 ^ l + hi * 2 ^ (l + m) < 2 ^ 32 :=
    (two_fields_lt hlow hhi).trans_le (Nat.pow_le_pow_right (by decide) hw)
  have hdrop : lo + mid * 2 ^ l + hi * 2 ^ (l + m) = lo + (mid + hi * 2 ^ m) * 2 ^ l := by ring
  unfold fieldAt
  rw [BitVec.toNat_ofNat, Nat.mod_eq_of_lt hword]
  refine ⟨?_, ?_, ?_⟩
  · rw [hdrop, Nat.pow_zero, Nat.div_one, Nat.add_mul_mod_self_right, Nat.mod_eq_of_lt hlo]
  · rw [hdrop, Nat.add_mul_div_right _ _ (Nat.two_pow_pos l), Nat.div_eq_of_lt hlo, Nat.zero_add, Nat.add_mul_mod_self_right,
      Nat.mod_eq_of_lt hmid]
  · rw [Nat.add_mul_div_right _ _ (Nat.two_pow_pos _), Nat.div_eq_of_lt hlow, Nat.zero_add, Nat.mod_eq_of_lt hhi]

/-- Three bit strings as fields of a number are their concatenation below zeros. -/
theorem ofNat_fields_eq_append {z h m l : ℕ} (hi : BitVec h) (mid : BitVec m) (lo : BitVec l) :
    BitVec.ofNat (z + h + m + l) (lo.toNat + mid.toNat * 2 ^ l + hi.toNat * 2 ^ (l + m)) = 0#z ++ hi ++ mid ++ lo := by
  have happend : (0#z ++ hi ++ mid ++ lo).toNat = lo.toNat + mid.toNat * 2 ^ l + hi.toNat * 2 ^ (l + m) := by
    rw [BitVec.toNat_append, ← Nat.shiftLeft_add_eq_or_of_lt lo.isLt, BitVec.toNat_append,
      ← Nat.shiftLeft_add_eq_or_of_lt mid.isLt, BitVec.toNat_append, ← Nat.shiftLeft_add_eq_or_of_lt hi.isLt]
    simp only [BitVec.toNat_zero, Nat.shiftLeft_eq, Nat.zero_mul, Nat.zero_add]
    ring
  rw [← happend, BitVec.ofNat_toNat, BitVec.setWidth_eq]

theorem fieldAt_eq_extractLsb' (v : W32) (lo n : ℕ) : fieldAt v lo n = (v.extractLsb' lo n).toNat := by
  rw [BitVec.extractLsb'_toNat, Nat.shiftRight_eq_div_pow, fieldAt]

theorem narrow_eq_extractLsb' (c : W8) {m : ℕ} (hm : m ≤ 8) : narrow c m = (c.extractLsb' (8 - m) m).toNat := by
  have hlt : c.toNat >>> (8 - m) < 2 ^ m := by
    rw [Nat.shiftRight_eq_div_pow, Nat.div_lt_iff_lt_mul (Nat.two_pow_pos _), ← Nat.pow_add, Nat.add_sub_cancel' hm]
    exact c.isLt
  rw [BitVec.extractLsb'_toNat, Nat.mod_eq_of_lt hlt, narrow]

theorem narrow_lt (c : W8) {m : ℕ} (hm : m ≤ 8) : narrow c m < 2 ^ m := by
  rw [narrow_eq_extractLsb' c hm]
  exact BitVec.isLt _

/-! ## The fields of a depth code (R231 to R233) -/

theorem Depth.widths_le (k : Depth) : k.wR + k.wG + k.wB ≤ 32 := by cases k <;> decide

theorem storage_fields_storageOf {k : Depth} {r g b : ℕ} (hr : r < 2 ^ k.wR) (hg : g < 2 ^ k.wG) (hb : b < 2 ^ k.wB) :
    storageR k (storageOf k r g b) = r ∧ storageG k (storageOf k r g b) = g ∧ storageB k (storageOf k r g b) = b :=
  fieldAt_ofNat_fields hr hg hb k.widths_le

theorem host_fields_hostOf {k : Depth} {r g b : ℕ} (hr : r < 2 ^ k.wR) (hg : g < 2 ^ k.wG) (hb : b < 2 ^ k.wB) :
    hostB k (hostOf k r g b) = b ∧ hostG k (hostOf k r g b) = g ∧ hostR k (hostOf k r g b) = r :=
  fieldAt_ofNat_fields hb hg hr (by have := k.widths_le; omega)

/-- A value of the depth is its storage fields. -/
theorem storageOf_fields_of_lt {k : Depth} {v : W32} (hv : v.toNat < 2 ^ k.db) :
    storageOf k (storageR k v) (storageG k v) (storageB k v) = v := by
  rw [storageOf_fields, Nat.mod_eq_of_lt hv, BitVec.ofNat_toNat, BitVec.setWidth_eq]

/-- A value of the depth is its host fields. -/
theorem hostOf_fields_of_lt {k : Depth} {v : W32} (hv : v.toNat < 2 ^ k.db) :
    hostOf k (hostR k v) (hostG k v) (hostB k v) = v := by
  have hdb : k.db = k.wB + k.wG + k.wR := by rw [k.db_eq_widths]; ring
  have hfields : hostB k v + hostG k v * 2 ^ k.wB + hostR k v * 2 ^ (k.wB + k.wG) = v.toNat % 2 ^ k.db := by
    unfold hostR hostG hostB fieldAt
    rw [hdb, Nat.pow_add 2 (k.wB + k.wG), Nat.mod_mul, Nat.pow_add 2 k.wB, Nat.mod_mul]
    simp [Nat.mul_comm]
  rw [hostOf, hfields, Nat.mod_eq_of_lt hv, BitVec.ofNat_toNat, BitVec.setWidth_eq]

theorem fromHost_toHost {k : Depth} {v : W32} (hv : v.toNat < 2 ^ k.db) : fromHost k (toHost k v) = v := by
  obtain ⟨hb, hg, hr⟩ :=
    host_fields_hostOf (k := k) (r := storageR k v) (g := storageG k v) (b := storageB k v) (fieldAt_lt ..) (fieldAt_lt ..)
      (fieldAt_lt ..)
  rw [fromHost, toHost, hr, hg, hb, storageOf_fields_of_lt hv]

theorem toHost_fromHost {k : Depth} {v : W32} (hv : v.toNat < 2 ^ k.db) : toHost k (fromHost k v) = v := by
  obtain ⟨hr, hg, hb⟩ :=
    storage_fields_storageOf (k := k) (r := hostR k v) (g := hostG k v) (b := hostB k v) (fieldAt_lt ..) (fieldAt_lt ..)
      (fieldAt_lt ..)
  rw [toHost, fromHost, hr, hg, hb, hostOf_fields_of_lt hv]

/-! ## The layouts as bit strings -/

theorem toHost_eq_append (k : Depth) (v : W32) {z : ℕ} (hz : 32 = z + k.wR + k.wG + k.wB) :
    toHost k v =
      (0#z ++ v.extractLsb' 0 k.wR ++ v.extractLsb' k.wR k.wG ++ v.extractLsb' (k.wR + k.wG) k.wB).cast hz.symm := by
  rw [← ofNat_fields_eq_append, toHost, hostOf, storageR, storageG, storageB, fieldAt_eq_extractLsb', fieldAt_eq_extractLsb',
    fieldAt_eq_extractLsb', BitVec.cast_ofNat]

theorem fromHost_eq_append (k : Depth) (v : W32) {z : ℕ} (hz : 32 = z + k.wB + k.wG + k.wR) :
    fromHost k v =
      (0#z ++ v.extractLsb' 0 k.wB ++ v.extractLsb' k.wB k.wG ++ v.extractLsb' (k.wB + k.wG) k.wR).cast hz.symm := by
  rw [← ofNat_fields_eq_append, fromHost, storageOf, hostR, hostG, hostB, fieldAt_eq_extractLsb', fieldAt_eq_extractLsb',
    fieldAt_eq_extractLsb', BitVec.cast_ofNat]

theorem pack_eq_append (k : Depth) (c : Rgb8) {z : ℕ} (hz : 32 = z + k.wB + k.wG + k.wR) :
    pack k c =
      (0#z ++ c.b.extractLsb' (8 - k.wB) k.wB ++ c.g.extractLsb' (8 - k.wG) k.wG ++
        c.r.extractLsb' (8 - k.wR) k.wR).cast hz.symm := by
  obtain ⟨⟨-, hR⟩, ⟨-, hG⟩, ⟨-, hB⟩⟩ := k.width_range
  rw [← ofNat_fields_eq_append, pack, storageOf, narrow_eq_extractLsb' _ hR, narrow_eq_extractLsb' _ hG,
    narrow_eq_extractLsb' _ hB, BitVec.cast_ofNat]

theorem expand_eq_extractLsb' (k : Depth) (v : W32) :
    expand k v =
      { r := rep (v.extractLsb' 0 k.wR).toNat k.wR, g := rep (v.extractLsb' k.wR k.wG).toNat k.wG,
        b := rep (v.extractLsb' (k.wR + k.wG) k.wB).toNat k.wB } := by
  rw [expand, storageR, storageG, storageB, fieldAt_eq_extractLsb', fieldAt_eq_extractLsb', fieldAt_eq_extractLsb']

/-! ## The round trip (R237) -/

/-- A narrower truncation is a truncation of a wider one. -/
theorem narrow_narrow (c : W8) {n m : ℕ} (hnm : n ≤ m) (hm : m ≤ 8) : narrow c n = narrow c m >>> (m - n) := by
  rw [narrow, narrow, ← Nat.shiftRight_add, show 8 - m + (m - n) = 8 - n by omega]

/-- A channel keeps its value through a channel at least as wide. -/
theorem narrow_rep_via_wider {v n m : ℕ} (hv : v < 2 ^ n) (hn : 0 < n) (hnm : n ≤ m) (hm : m ≤ 8) :
    narrow (rep (narrow (rep v n) m) m) n = v := by
  calc narrow (rep (narrow (rep v n) m) m) n
      = narrow (rep (narrow (rep v n) m) m) m >>> (m - n) := narrow_narrow _ hnm hm
    _ = narrow (rep v n) m >>> (m - n) := by rw [narrow_rep (narrow_lt _ hm) (hn.trans_le hnm) hm]
    _ = narrow (rep v n) n := (narrow_narrow _ hnm hm).symm
    _ = v := narrow_rep hv hn (hnm.trans hm)

theorem expand_pack (k : Depth) (c : Rgb8) :
    expand k (pack k c) =
      { r := rep (narrow c.r k.wR) k.wR, g := rep (narrow c.g k.wG) k.wG, b := rep (narrow c.b k.wB) k.wB } := by
  obtain ⟨⟨-, hR⟩, ⟨-, hG⟩, ⟨-, hB⟩⟩ := k.width_range
  obtain ⟨hr, hg, hb⟩ := storage_fields_storageOf (k := k) (narrow_lt c.r hR) (narrow_lt c.g hG) (narrow_lt c.b hB)
  rw [expand, pack, hr, hg, hb]

/-- Each channel of a deeper code is at least as wide (R231). -/
theorem Depth.widths_mono {j k : Depth} (h : j.db ≤ k.db) : j.wR ≤ k.wR ∧ j.wG ≤ k.wG ∧ j.wB ≤ k.wB := by
  revert h
  cases j <;> cases k <;> decide

theorem convert_convert_of_le {j k : Depth} (hjk : j.db ≤ k.db) {v : W32} (hv : v.toNat < 2 ^ j.db) :
    convert k j (convert j k v) = v := by
  obtain ⟨⟨hR, -⟩, ⟨hG, -⟩, ⟨hB, -⟩⟩ := j.width_range
  obtain ⟨⟨-, hR8⟩, ⟨-, hG8⟩, ⟨-, hB8⟩⟩ := k.width_range
  obtain ⟨hRR, hGG, hBB⟩ := Depth.widths_mono hjk
  have hr : narrow (rep (narrow (expand j v).r k.wR) k.wR) j.wR = storageR j v :=
    narrow_rep_via_wider (fieldAt_lt ..) hR hRR hR8
  have hg : narrow (rep (narrow (expand j v).g k.wG) k.wG) j.wG = storageG j v :=
    narrow_rep_via_wider (fieldAt_lt ..) hG hGG hG8
  have hb : narrow (rep (narrow (expand j v).b k.wB) k.wB) j.wB = storageB j v :=
    narrow_rep_via_wider (fieldAt_lt ..) hB hBB hB8
  rw [convert, convert, expand_pack, pack, hr, hg, hb, storageOf_fields_of_lt hv]

/-- The value 1, the lowest bit of red, is lost on every way down: a shallower code has less red, and truncation drops it. -/
theorem convert_one_of_lt {j k : Depth} (h : k.db < j.db) : convert j k 1 = 0 := by
  revert h
  cases j <;> cases k <;> decide

theorem convert_zero (j k : Depth) : convert j k 0 = 0 := by
  cases j <;> cases k <;> decide

/-- Settles O37: `convert_convert_of_le` one way, the value 1 the other. -/
theorem conversionRoundTrip : Obligations.ConversionRoundTrip := by
  intro k1 k2
  refine ⟨fun h => Nat.le_of_not_lt fun hlt => ?_, fun hle v hv => convert_convert_of_le hle hv⟩
  have hone : convert k2 k1 (convert k1 k2 1) = 1 := h 1 (Nat.one_lt_two_pow (Nat.ne_zero_of_lt hlt))
  rw [convert_one_of_lt hlt, convert_zero] at hone
  exact absurd hone (by decide)

/-! ## The closed forms and the laws -/

/-- At full width no bit is repeated (R234). -/
theorem rep_eight {v : ℕ} (hv : v < 256) : (rep v 8).toNat = v := by
  have hrep : (rep v 8).toNat = narrow (rep v 8) 8 := rfl
  rw [hrep, narrow_rep hv (by decide) le_rfl]

theorem extractLsb'_swap32 (w : W32) :
    (swap32 w).extractLsb' 0 8 = w.extractLsb' 24 8 ∧ (swap32 w).extractLsb' 8 8 = w.extractLsb' 16 8 ∧
      (swap32 w).extractLsb' 16 8 = w.extractLsb' 8 8 ∧ (swap32 w).extractLsb' 24 8 = w.extractLsb' 0 8 := by
  unfold swap32
  refine ⟨?_, ?_, ?_, ?_⟩
  · rw [BitVec.extractLsb'_append_eq_right]
  · rw [BitVec.extractLsb'_append_eq_of_le (by decide), BitVec.extractLsb'_append_eq_right]
  · rw [BitVec.extractLsb'_append_eq_of_le (by decide), BitVec.extractLsb'_append_eq_of_le (by decide),
      BitVec.extractLsb'_append_eq_right]
  · rw [BitVec.extractLsb'_append_eq_of_le (by decide), BitVec.extractLsb'_append_eq_of_le (by decide),
      BitVec.extractLsb'_append_eq_left]

theorem swap32_swap32 (w : W32) : swap32 (swap32 w) = w := by
  obtain ⟨h0, h1, h2, h3⟩ := extractLsb'_swap32 w
  rw [swap32, h0, h1, h2, h3, BitVec.extractLsb'_append_extractLsb'_eq_extractLsb' (by rfl),
    BitVec.extractLsb'_append_extractLsb'_eq_extractLsb' (by rfl),
    BitVec.extractLsb'_append_extractLsb'_eq_extractLsb' (by rfl), BitVec.extractLsb'_eq_self]

/-- In RGB mode a host word and a cell are converted between the two depths (R190, R239). -/
theorem host_conversions_rgb {s : State} (h : s.rgbMode = true) (w : W32) :
    hostSource s w = convert s.hostDepth s.depth (fromHost s.hostDepth (w &&& ones s.hostDepth.db)) ∧
      cellToHost s w = toHost s.hostDepth (convert s.depth s.hostDepth (w &&& ones s.depth.db)) :=
  ⟨if_pos h, if_pos h⟩

/-- In CI mode both are truncated to the two depths (R190, R239). -/
theorem host_conversions_ci {s : State} (h : s.rgbMode = false) (w : W32) :
    hostSource s w = w &&& ones s.hostDepth.db &&& ones s.depth.db ∧
      cellToHost s w = w &&& ones s.depth.db &&& ones s.hostDepth.db :=
  ⟨if_neg (Bool.not_eq_true _ ▸ h), if_neg (Bool.not_eq_true _ ▸ h)⟩

/-- Settles O38: the layouts are the general ones at each code's widths. -/
theorem pixelFormatLaws : Obligations.PixelFormatLaws := by
  refine ⟨⟨by decide, by decide, by decide, by decide, fun v hv => rep_eight hv⟩, ⟨rfl, rfl⟩, fun v => ?expands,
    fun c => ?packs, fun v => ?hosts, fun k v hv => ⟨fromHost_toHost hv, toHost_fromHost hv⟩,
    fun j k v => ⟨rfl, pack_expand⟩, by decide,
    fun s w => ⟨fun h => host_conversions_rgb h w, fun h => host_conversions_ci h w⟩, fun w => ⟨rfl, swap32_swap32 w⟩⟩
  case expands =>
    exact ⟨expand_eq_extractLsb' .d4 v, expand_eq_extractLsb' .d8 v, expand_eq_extractLsb' .d12 v, expand_eq_extractLsb' .d24 v⟩
  case packs =>
    have whole (x : W8) : x.extractLsb' 0 8 = x := BitVec.extractLsb'_eq_self
    refine ⟨pack_eq_append .d4 c rfl, pack_eq_append .d8 c rfl, pack_eq_append .d12 c rfl, ?_⟩
    rw [← whole c.b, ← whole c.g, ← whole c.r]
    exact pack_eq_append .d24 c rfl
  case hosts =>
    exact ⟨toHost_eq_append .d4 v rfl, toHost_eq_append .d8 v rfl, toHost_eq_append .d12 v rfl, toHost_eq_append .d24 v rfl,
      fromHost_eq_append .d4 v rfl, fromHost_eq_append .d8 v rfl, fromHost_eq_append .d12 v rfl,
      fromHost_eq_append .d24 v rfl⟩

end Sys2Proof.Machine

/-! # The sub-devices on the device-control bus (45_pixel_mode_resolver.md, 46_color_lookup.md, 48_dcb.md)

What a transaction with a component does in closed form, a PMR's rows as its register accesses, and the paired sub-addresses. -/

namespace Sys2Proof.Machine

/-! ## A transaction with a component (R335, R336) -/

theorem dcbWriteTo_of_responds {slave : BitVec 4} (h : responds slave = true) (r : BitVec 4) (s : State) :
    dcbWriteTo slave r s = slaveWrite slave r s.ce.dcbdata0 s.answered := if_pos h

theorem State.answered_of_not_pending {s : State} (h : s.dcbPending = false) : s.answered = s := by
  rw [State.answered, ← h]

/-! ## What a register write of a sub-device leaves alone -/

theorem pmrWrite_frame (i : Inst) (r : BitVec 4) (v : W32) (s : State) :
    (pmrWrite i r v s).ce = s.ce ∧ (pmrWrite i r v s).dcbPending = s.dcbPending := by
  unfold pmrWrite
  split <;> simp

theorem clutWrite_frame (c : Inst) (r : BitVec 4) (v : W32) (s : State) :
    (clutWrite c r v s).ce = s.ce ∧ (clutWrite c r v s).dcbPending = s.dcbPending := by
  unfold clutWrite
  split <;> simp

theorem tgWrite_frame (r : BitVec 4) (v : W32) (s : State) :
    (tgWrite r v s).ce = s.ce ∧ (tgWrite r v s).dcbPending = s.dcbPending := by
  unfold tgWrite
  split <;> exact ⟨rfl, rfl⟩

theorem auxWrite_frame (d : AuxId) (r : BitVec 4) (v : W32) (s : State) :
    (auxWrite d r v s).ce = s.ce ∧ (auxWrite d r v s).dcbPending = s.dcbPending := by
  cases d <;> exact ⟨rfl, rfl⟩

/-- No component's register write touches a CE register, DCBDATA0 among them, or the timer (R335). -/
theorem slaveWrite_frame (slave r : BitVec 4) (v : W32) (s : State) :
    (slaveWrite slave r v s).ce = s.ce ∧ (slaveWrite slave r v s).dcbPending = s.dcbPending := by
  have both {f g : State → State} (hf : ∀ u : State, (f u).ce = u.ce ∧ (f u).dcbPending = u.dcbPending)
      (hg : ∀ u : State, (g u).ce = u.ce ∧ (g u).dcbPending = u.dcbPending) :
      (g (f s)).ce = s.ce ∧ (g (f s)).dcbPending = s.dcbPending :=
    ⟨(hg _).1.trans (hf s).1, (hg _).2.trans (hf s).2⟩
  unfold slaveWrite
  split
  · exact tgWrite_frame r v s
  · exact both (clutWrite_frame .zero r v) (clutWrite_frame .one r v)
  · exact clutWrite_frame .zero r v s
  · exact clutWrite_frame .one r v s
  · exact both (pmrWrite_frame .zero r v) (pmrWrite_frame .one r v)
  · exact pmrWrite_frame .zero r v s
  · exact pmrWrite_frame .one r v s
  · exact auxWrite_frame .analog r v s
  · exact auxWrite_frame .latch0 r v s
  · exact auxWrite_frame .latch1 r v s
  · exact ⟨rfl, rfl⟩

/-- Two answered transactions in a row write the same DCBDATA0, and the second finds no timeout to cancel. -/
theorem dcbWriteTo_dcbWriteTo {a b : BitVec 4} (ha : responds a = true) (hb : responds b = true) (r : BitVec 4) (s : State) :
    dcbWriteTo b r (dcbWriteTo a r s) =
      slaveWrite b r s.ce.dcbdata0 (slaveWrite a r s.ce.dcbdata0 s.answered) := by
  obtain ⟨hce, hpending⟩ := slaveWrite_frame a r s.ce.dcbdata0 s.answered
  rw [dcbWriteTo_of_responds ha, dcbWriteTo_of_responds hb, hce, State.answered_of_not_pending hpending]
  rfl

/-! ## The paired sub-addresses (R251, R279, R344) -/

/-- Settles O46: the two transactions in a row are the paired write's two register writes, and the paired read is instance 0's. -/
theorem pairedAliases : Obligations.PairedAliases := by
  have clut (r : BitVec 4) (s : State) : dcbWriteTo 1 r s = dcbWriteTo 3 r (dcbWriteTo 2 r s) :=
    (dcbWriteTo_dcbWriteTo (a := 2) (b := 3) rfl rfl r s).symm
  have pmr (r : BitVec 4) (s : State) : dcbWriteTo 4 r s = dcbWriteTo 6 r (dcbWriteTo 5 r s) :=
    (dcbWriteTo_dcbWriteTo (a := 5) (b := 6) rfl rfl r s).symm
  intro r s
  refine ⟨⟨_, _, exec_dcbWrite 2 r s, exec_dcbWrite 3 r _, ?_⟩, ⟨_, _, exec_dcbWrite 5 r s, exec_dcbWrite 6 r _, ?_⟩,
    ⟨_, exec_dcbRead 2 r s, exec_dcbRead 1 r s⟩, ⟨_, exec_dcbRead 5 r s, exec_dcbRead 4 r s⟩⟩
  · rw [← clut]
    exact exec_dcbWrite 1 r s
  · rw [← pmr]
    exact exec_dcbWrite 4 r s

/-! ## The register table of a PMR (R252, R254, R256) -/

/-- The rows of sub-addresses PMR0 and PMR1 (R92). -/
theorem decodeDcb_pmr (i : Inst) (r : BitVec 4) :
    decodeDcb (1#1 ++ i.pick 5#4 6#4 ++ r) = i.pick (dcbWritePmr0 r) (dcbWritePmr1 r) ∧
      decodeDcb (0#1 ++ i.pick 5#4 6#4 ++ r) = i.pick (dcbReadPmr0 r) (dcbReadPmr1 r) := by
  cases i
  · induction r using bitVec4_cases <;> exact ⟨rfl, rfl⟩
  · induction r using bitVec4_cases <;> exact ⟨rfl, rfl⟩

theorem dcbWriteTo_pmr (i : Inst) (r : BitVec 4) (s : State) :
    dcbWriteTo (i.pick 5#4 6#4) r s = pmrWrite i r s.ce.dcbdata0 s.answered := by
  cases i <;> rfl

theorem dcbReadFrom_pmr (i : Inst) (r : BitVec 4) (s : State) :
    dcbReadFrom (i.pick 5#4 6#4) r s = s.answeredWith (pmrRead i r s) := by
  cases i <;> rfl

/-- A write row of PMR[i] is the write of DCBDATA0 to its register select. -/
theorem exec_dcbWritePmr (i : Inst) (r : BitVec 4) (s : State) :
    exec (i.pick (dcbWritePmr0 r) (dcbWritePmr1 r)) s = .next (pmrWrite i r s.ce.dcbdata0 s.answered) := by
  obtain ⟨hwrite, -⟩ := decodeDcb_pmr i r
  rw [← hwrite, exec_dcbWrite, dcbWriteTo_pmr]

/-- A read row of PMR[i] puts its register in DCBDATA0. -/
theorem exec_dcbReadPmr (i : Inst) (r : BitVec 4) (s : State) :
    exec (i.pick (dcbReadPmr0 r) (dcbReadPmr1 r)) s = .next (s.answeredWith (pmrRead i r s)) := by
  obtain ⟨-, hread⟩ := decodeDcb_pmr i r
  rw [← hread, exec_dcbRead, dcbReadFrom_pmr]

/-- MODE_DATA changes nothing but its PMR's mode table and MODE_INDEX (R256). -/
theorem pmrWrite_modeData (i : Inst) (v : W32) (s : State) :
    pmrWrite i 6 v s =
      s.setPmr i { s.pmr i with mode := ((pmrWrite i 6 v s).pmr i).mode, modeIndex := (s.pmr i).modeIndex + 1 } := by
  cases i <;> rfl

theorem State.pmr_answered (s : State) (i : Inst) : s.answered.pmr i = s.pmr i := by cases i <;> rfl

theorem modeTableEntry_answered (s : State) (i : Inst) (j : Nat) : modeTableEntry s.answered i j = modeTableEntry s i j := by
  cases i <;> rfl

/-- Settles O39: each row is the access to its register select, whose case of `pmrWrite` or `pmrRead` is the table's. -/
theorem pmrRegisters : Obligations.PmrRegisters := by
  intro i s
  refine ⟨exec_dcbWritePmr i 0 s, exec_dcbWritePmr i 1 s, exec_dcbWritePmr i 2 s, exec_dcbWritePmr i 3 s,
    exec_dcbWritePmr i 4 s, exec_dcbWritePmr i 5 s, ⟨_, exec_dcbWritePmr i 6 s, ?frame, fun j => ?table⟩,
    exec_dcbReadPmr i 0 s, exec_dcbReadPmr i 1 s, exec_dcbReadPmr i 2 s, exec_dcbReadPmr i 3 s, exec_dcbReadPmr i 4 s,
    exec_dcbReadPmr i 5 s, exec_dcbReadPmr i 6 s⟩
  case frame => exact pmrWrite_modeData i _ s.answered
  case table =>
    refine (modeTableEntry_pmrWrite i i 6 _ s.answered j).trans ?_
    exact if_congr (by simp [State.pmr_answered]) rfl (modeTableEntry_answered s i j)

end Sys2Proof.Machine

/-! # The display composition (45_pixel_mode_resolver.md section 2, 46_color_lookup.md R280, 47_timing_cursor.md section 6)

The queries of the PMR and the CLUT, and the displayed colour by layer. -/

namespace Sys2Proof.Machine

/-! ## The queries of the PMR and the CLUT -/

/-- An index is taken modulo the mode table's 32 entries (R256, R257). -/
theorem modeTableEntry_mod (s : State) (i : Inst) (j : Nat) : modeTableEntry s i (j % 32) = modeTableEntry s i j := by
  simp only [modeTableEntry, Nat.mod_mod]

theorem exec_modeEntry (j : Nat) (s : State) :
    exec (.modeEntry j) s =
      .next (s.emit (.modeEntry (modeBank (modeAt s j)) (modeCmap (modeAt s j)) (modeDepth (modeAt s j)))) := by rfl

theorem exec_paletteBase (c : Inst) (s : State) : exec (.paletteBase c.num) s = .next (s.emit (.palette (paletteOf s c))) := by
  cases c <;> rfl

theorem length_paletteOf (s : State) (c : Inst) : (paletteOf s c).length = s.par.clutEntries := by simp [paletteOf]

theorem getElem?_paletteOf {s : State} {i : Nat} (h : i < s.par.clutEntries) (c : Inst) :
    (paletteOf s c)[i]? = some (clutEntry s c i) := by simp [paletteOf, h]

/-- Settles O54: each query gives out what it names, the palette entry by entry. -/
theorem pmrAndClutQueries : Obligations.PmrAndClutQueries := by
  refine fun s => ⟨rfl, rfl, rfl, fun j => ?_, fun c =>
    ⟨paletteOf s c, exec_paletteBase c s, length_paletteOf s c, fun i hi => getElem?_paletteOf hi c⟩⟩
  rw [modeTableEntry_mod]
  exact exec_modeEntry j s

/-! ## What the decode leaves alone

The layers of a pixel are read from registers, tables and planes, of which the decode changes none (R300). -/

theorem cursorAt_decoded (s : State) (x y : Int) : cursorAt s.decoded x y = cursorAt s x y := by rfl

theorem planeRead_decoded (s : State) (p : PlaneId) (x y : Int) : planeRead s.decoded p x y = planeRead s p x y := by rfl

theorem resolve_decoded (s : State) (j : BitVec 5) (c : W32) : resolve s.decoded j c = resolve s j c := by rfl

theorem didWalk_decoded (s : State) (x : Int) (fuel a : Nat) (d : BitVec 5) :
    didWalk s.decoded x fuel a d = didWalk s x fuel a d := by
  have htram (b : Nat) : tramRead s.decoded b = tramRead s b := rfl
  have hpar : s.decoded.par = s.par := rfl
  induction fuel generalizing a d with
  | zero => rfl
  | succ k ih => simp only [didWalk, htram, hpar, ih]

theorem didAt_decoded (s : State) (y x : Int) : didAt s.decoded y x = didAt s y x :=
  congrArg (fun d => if s.didEn then d else 0) (didWalk_decoded s x s.par.tramWords (didListAddr s y) 0)

/-! ## The layers of a displayed pixel (R323, R326) -/

/-- (x, y), counted from the window's first visible position, lies in the window (R323). -/
def Window.shows (w : Window) (x y : Int) : Prop := 0 ≤ x ∧ x ≤ w.x1 - w.x0 ∧ 0 ≤ y ∧ y ≤ w.y1 - w.y0

/-- What the pop-up plane shows at (x, y), 0 for nothing (R326). -/
def State.popupAt (s : State) (x y : Int) : W32 := planeRead s .popup x y &&& 0x3

theorem exec_displayPixel (x y : Int) (s : State) :
    exec (.displayPixel x y) s = .next (s.decoded.emit (.pixel (pixelAt s.decoded x y))) := by
  rw [← ensureDecoded_eq]
  rfl

section
variable {s : State} {x y : Int}

theorem pixelAt_of_outside (h : ¬ s.tg.win.shows x y) : pixelAt s x y = 0 := if_neg h

theorem pixelAt_of_cursor (h : s.tg.win.shows x y) {rgb : W24} (hc : cursorAt s x y = some rgb) : pixelAt s x y = rgb := by
  refine (if_pos h).trans ?_
  rw [hc]

theorem pixelAt_of_popup (h : s.tg.win.shows x y) (hc : cursorAt s x y = none) (hp : s.popupAt x y ≠ 0) :
    pixelAt s x y = bankColour s s.pmr0.popupCmap (s.popupAt x y).toNat := by
  refine (if_pos h).trans ?_
  rw [hc]
  exact if_pos hp

theorem pixelAt_of_primary (h : s.tg.win.shows x y) (hc : cursorAt s x y = none) (hp : s.popupAt x y = 0) :
    pixelAt s x y = resolve s (didAt s y x) (planeRead s .primary x y) := by
  refine (if_pos h).trans ?_
  rw [hc]
  exact if_neg (not_not_intro hp)

end

/-! ## The colour of a primary cell (R259, R327) -/

/-- The cell's low bits by the entry's depth class, 8 of them at most with BPP8. -/
def pixelValue (s : State) (e : W8) (c : W32) : W32 :=
  let low := c &&& ones (Depth.ofBits (modeDepth e)).db
  if is8bppNow s then low &&& 0xFF else low

theorem resolve_of_cmap {s : State} {j : BitVec 5} (h : modeCmap (modeAt s j.toNat) = true) (c : W32) :
    resolve s j c = bankColour s (modeBank (modeAt s j.toNat)) (pixelValue s (modeAt s j.toNat) c).toNat := if_pos h

theorem resolve_of_not_cmap {s : State} {j : BitVec 5} (h : modeCmap (modeAt s j.toNat) = false) (c : W32) :
    resolve s j c =
      (let rgb := expand (Depth.ofBits (modeDepth (modeAt s j.toNat))) (pixelValue s (modeAt s j.toNat) c)
       rgb.r ++ rgb.g ++ rgb.b) := if_neg (Bool.not_eq_true _ ▸ h)

/-- Settles O53: the pixel of the decoded state, layer by layer, each layer read from what the decode leaves alone. -/
theorem displayPixel : Obligations.DisplayPixel := by
  intro x y s
  refine ⟨pixelAt s.decoded x y, exec_displayPixel x y s, fun houtside => pixelAt_of_outside houtside,
    fun hinside => ⟨fun q hc => ?cursor, fun hc hp => ?popup, fun hc hp => ?primary⟩⟩
  case cursor => exact pixelAt_of_cursor (s := s.decoded) hinside hc
  case popup => exact pixelAt_of_popup (s := s.decoded) hinside hc hp
  case primary =>
    have hresolve : pixelAt s.decoded x y = resolve s (didAt s y x) (planeRead s .primary x y) := by
      rw [pixelAt_of_primary (s := s.decoded) hinside hc hp, resolve_decoded, didAt_decoded, planeRead_decoded]
    rw [hresolve]
    exact ⟨fun hcmap => resolve_of_cmap hcmap _, fun hcmap => resolve_of_not_cmap hcmap _⟩

end Sys2Proof.Machine

/-! # The colour lookup tables (46_color_lookup.md)

A CLUT's rows as its register accesses, and a burst of DATA writes slot by slot. -/

namespace Sys2Proof.Machine

/-! ## The register table of a CLUT (R272 to R277) -/

/-- The rows of sub-addresses CLUT0 and CLUT1 (R92). -/
theorem decodeDcb_clut (c : Inst) (r : BitVec 4) :
    decodeDcb (1#1 ++ c.pick 2#4 3#4 ++ r) = c.pick (dcbWriteClut0 r) (dcbWriteClut1 r) ∧
      decodeDcb (0#1 ++ c.pick 2#4 3#4 ++ r) = c.pick (dcbReadClut0 r) (dcbReadClut1 r) := by
  cases c
  · induction r using bitVec4_cases <;> exact ⟨rfl, rfl⟩
  · induction r using bitVec4_cases <;> exact ⟨rfl, rfl⟩

theorem dcbWriteTo_clut (c : Inst) (r : BitVec 4) (s : State) :
    dcbWriteTo (c.pick 2#4 3#4) r s = clutWrite c r s.ce.dcbdata0 s.answered := by
  cases c <;> rfl

theorem dcbReadFrom_clut (c : Inst) (r : BitVec 4) (s : State) :
    dcbReadFrom (c.pick 2#4 3#4) r s = s.answeredWith (clutRead c r s) := by
  cases c <;> rfl

/-- A write row of CLUT[c] is the write of DCBDATA0 to its register select. -/
theorem exec_dcbWriteClut (c : Inst) (r : BitVec 4) (s : State) :
    exec (c.pick (dcbWriteClut0 r) (dcbWriteClut1 r)) s = .next (clutWrite c r s.ce.dcbdata0 s.answered) := by
  obtain ⟨hwrite, -⟩ := decodeDcb_clut c r
  rw [← hwrite, exec_dcbWrite, dcbWriteTo_clut]

/-- A read row of CLUT[c] puts its register in DCBDATA0. -/
theorem exec_dcbReadClut (c : Inst) (r : BitVec 4) (s : State) :
    exec (c.pick (dcbReadClut0 r) (dcbReadClut1 r)) s = .next (s.answeredWith (clutRead c r s)) := by
  obtain ⟨-, hread⟩ := decodeDcb_clut c r
  rw [← hread, exec_dcbRead, dcbReadFrom_clut]

/-- DATA changes nothing but its CLUT's table and INDEX (R275). -/
theorem clutWrite_data (c : Inst) (v : W32) (s : State) :
    clutWrite c 1 v s =
      s.setClut c { index := ((s.clut c).index + 1) % s.par.clutEntries, table := ((clutWrite c 1 v s).clut c).table } := by
  cases c <;> rfl

theorem State.clut_answered (s : State) (c : Inst) : s.answered.clut c = s.clut c := by cases c <;> rfl

theorem State.par_answered (s : State) : s.answered.par = s.par := rfl

theorem clutEntry_answered (s : State) (c : Inst) (i : Nat) : clutEntry s.answered c i = clutEntry s c i := by
  cases c <;> rfl

/-- Settles O40: each row is the access to its register select, whose case of `clutWrite` or `clutRead` is the table's. -/
theorem clutRegisters : Obligations.ClutRegisters := by
  intro c s
  refine ⟨exec_dcbWriteClut c 0 s, ⟨_, exec_dcbWriteClut c 1 s, ?frame, fun i => ?table⟩, exec_dcbWriteClut c 2 s,
    exec_dcbReadClut c 0 s, exec_dcbReadClut c 1 s, exec_dcbReadClut c 2 s⟩
  case frame =>
    refine (clutWrite_data c _ s.answered).trans ?_
    rw [State.clut_answered, State.par_answered]
  case table =>
    refine (clutEntry_clutWrite c c 1 _ s.answered i).trans ?_
    exact if_congr (by simp [State.clut_answered, State.par_answered]) rfl (clutEntry_answered s c i)

/-! ## A burst of DATA writes (R281)

The slot of each write of a burst, counted from INDEX before the burst; one DATA write is one turn of the count. -/

/-- The slot that the `j`-th of the next DATA writes to CLUT[c] stores in, from 0: INDEX + j modulo the table size. -/
def State.clutSlot (s : State) (c : Inst) (j : Nat) : Nat := ((s.clut c).index + j) % s.par.clutEntries

section
variable (c : Inst) (v : W32) (s : State)

theorem clutWrite_par (r : BitVec 4) : (clutWrite c r v s).par = s.par := by
  unfold clutWrite
  split <;> simp

theorem index_clutWrite_index : ((clutWrite c 0 v s).clut c).index = v.toNat % s.par.clutEntries := by
  cases c <;> rfl

theorem index_clutWrite_data : ((clutWrite c 1 v s).clut c).index = s.clutSlot c 1 := by
  cases c <;> rfl

theorem clutSlot_clutWrite_index (j : Nat) : (clutWrite c 0 v s).clutSlot c j = (v.toNat + j) % s.par.clutEntries := by
  rw [State.clutSlot, index_clutWrite_index, clutWrite_par, Nat.mod_add_mod]

theorem clutSlot_clutWrite_data (j : Nat) : (clutWrite c 1 v s).clutSlot c j = s.clutSlot c (j + 1) := by
  rw [State.clutSlot, index_clutWrite_data, clutWrite_par, State.clutSlot, Nat.mod_add_mod, Nat.add_assoc, Nat.add_comm 1,
    State.clutSlot]

theorem clutEntry_clutWrite_index (i : Nat) : clutEntry (clutWrite c 0 v s) c i = clutEntry s c i := by
  rw [clutEntry_clutWrite, if_neg fun ⟨hr, _⟩ => absurd hr (by decide)]

/-- A DATA write stores in slot 0 of the count, and in no other (R275). -/
theorem clutEntry_clutWrite_data (i : Nat) :
    clutEntry (clutWrite c 1 v s) c i = if s.clutSlot c 0 = i % s.par.clutEntries then v.setWidth 24 else clutEntry s c i := by
  rw [clutEntry_clutWrite]
  exact if_congr ⟨fun ⟨_, _, hi⟩ => hi.symm, fun hi => ⟨rfl, rfl, hi.symm⟩⟩ rfl rfl

theorem clutBurst_cons (vs : List W32) : clutBurst c (v :: vs) s = clutBurst c vs (clutWrite c 1 v s) := rfl

end

/-- A burst leaves INDEX at the slot behind its last. -/
theorem index_clutBurst (c : Inst) (vs : List W32) {s : State} (h : (s.clut c).index < s.par.clutEntries) :
    ((clutBurst c vs s).clut c).index = s.clutSlot c vs.length := by
  induction vs generalizing s with
  | nil => exact (Nat.mod_eq_of_lt h).symm
  | cons v vs ih =>
    have hnext : ((clutWrite c 1 v s).clut c).index < (clutWrite c 1 v s).par.clutEntries := by
      rw [index_clutWrite_data, clutWrite_par]
      exact Nat.mod_lt _ (Nat.zero_lt_of_lt h)
    rw [clutBurst_cons, ih hnext, clutSlot_clutWrite_data, List.length_cons]

/-- An entry in none of a burst's slots is left alone. -/
theorem clutEntry_clutBurst_of_missed (c : Inst) (vs : List W32) {s : State} {i : Nat}
    (h : ∀ j < vs.length, s.clutSlot c j ≠ i % s.par.clutEntries) : clutEntry (clutBurst c vs s) c i = clutEntry s c i := by
  induction vs generalizing s with
  | nil => rfl
  | cons v vs ih =>
    have hfirst : s.clutSlot c 0 ≠ i % s.par.clutEntries := h 0 (Nat.zero_lt_succ _)
    have hrest : ∀ j < vs.length, (clutWrite c 1 v s).clutSlot c j ≠ i % (clutWrite c 1 v s).par.clutEntries := by
      intro j hj
      rw [clutSlot_clutWrite_data, clutWrite_par]
      exact h (j + 1) (Nat.succ_lt_succ hj)
    rw [clutBurst_cons, ih hrest, clutEntry_clutWrite_data, if_neg hfirst]

/-- The last write of a burst to a slot is what the slot holds: from that write on the burst misses it. -/
theorem clutEntry_clutBurst_of_last (c : Inst) (vs : List W32) {s : State} {i j : Nat} (hj : j < vs.length)
    (hi : s.clutSlot c j = i % s.par.clutEntries)
    (hlast : ∀ j', j < j' → j' < vs.length → s.clutSlot c j' ≠ i % s.par.clutEntries) :
    clutEntry (clutBurst c vs s) c i = vs[j].setWidth 24 := by
  induction vs generalizing s j with
  | nil => exact absurd hj (Nat.not_lt_zero j)
  | cons v vs ih =>
    have hrest : ∀ j', j < j' + 1 → j' < vs.length →
        (clutWrite c 1 v s).clutSlot c j' ≠ i % (clutWrite c 1 v s).par.clutEntries := by
      intro j' hlt hj'
      rw [clutSlot_clutWrite_data, clutWrite_par]
      exact hlast (j' + 1) hlt (Nat.succ_lt_succ hj')
    rw [clutBurst_cons]
    cases j with
    | zero =>
      rw [clutEntry_clutBurst_of_missed c vs fun j' hj' => hrest j' (Nat.zero_lt_succ j') hj', clutEntry_clutWrite_data,
        if_pos hi, List.getElem_cons_zero]
    | succ j =>
      rw [ih (Nat.lt_of_succ_lt_succ hj) (by rw [clutSlot_clutWrite_data, clutWrite_par, hi])
        fun j' hlt => hrest j' (Nat.succ_lt_succ hlt), List.getElem_cons_succ]

/-- Settles O41: after the INDEX write the burst's slots are K + j modulo the table size, and the INDEX write left the table. -/
theorem clutAutoIncrement : Obligations.ClutAutoIncrement := by
  intro c k vs s hn
  have hslot := clutSlot_clutWrite_index c k s
  have hpar : (clutWrite c 0 k s).par.clutEntries = s.par.clutEntries := congrArg _ (clutWrite_par c k s 0)
  refine ⟨?index, fun j hj hlast => ?filled, fun i hi hmissed => ?left⟩
  case index =>
    rw [index_clutBurst c vs (by rw [index_clutWrite_index, hpar]; exact Nat.mod_lt _ hn), hslot]
  case filled =>
    refine clutEntry_clutBurst_of_last c vs hj (by rw [hslot, hpar, Nat.mod_mod]) fun j' hlt hj' => ?_
    rw [hslot, hpar, Nat.mod_mod]
    exact hlast j' hlt hj'
  case left =>
    rw [clutEntry_clutBurst_of_missed c vs (fun j hj => ?_), clutEntry_clutWrite_index]
    rw [hslot, hpar, Nat.mod_eq_of_lt hi]
    exact hmissed j hj

end Sys2Proof.Machine

/-! # The vertical interrupt (47_timing_cursor.md R321, R322)

Every effect a request can have leaves STATUS.VINT alone, but for the write of STATUS, `begin_did_line` and the resets. -/

namespace Sys2Proof.Machine

/-! ## The commands and the host transfer leave STATUS.VINT -/

theorem State.vint_of_onlyDrew {s t : State} (h : s.onlyDrew t) : t.vint = s.vint := by
  unfold State.onlyDrew at h
  rw [h]

theorem State.vint_of_onlyCommanded {s t : State} (h : s.onlyCommanded t) : t.vint = s.vint := by
  unfold State.onlyCommanded at h
  rw [h]

theorem vint_commandOf (k : BitVec 5) (s : State) : (commandOf k (endTransfer s)).vint = s.vint :=
  State.vint_of_onlyCommanded (CommandWrites.of_commandOf k s).frame

@[simp] theorem vint_go (s : State) : (go s).vint = s.vint := by
  rw [go_eq]
  exact vint_commandOf s.commandKey s

theorem vint_xfAdvance (s : State) : (xfAdvance s).vint = s.vint := rfl

@[simp] theorem vint_consumeWord (w : W32) (s : State) : (consumeWord w s).vint = s.vint := by
  unfold consumeWord
  split
  · exact (vint_xfAdvance _).trans (State.vint_of_onlyDrew (plot_onlyDrew ..))
  · rfl

@[simp] theorem vint_hostConsume (s : State) : (hostConsume s).vint = s.vint := by
  unfold hostConsume
  split <;> simp

@[simp] theorem vint_produceWord (s : State) : (produceWord s).1.vint = s.vint := by
  unfold produceWord
  split
  · exact vint_xfAdvance s
  · rfl

@[simp] theorem vint_hostProduce (s : State) : (hostProduce s).1.vint = s.vint := by
  unfold hostProduce
  split <;> simp

@[simp] theorem vint_writeHostdata (v m : W64) (s : State) : (writeHostdata v m s).vint = s.vint := by
  unfold writeHostdata
  simp only
  split <;> simp

@[simp] theorem vint_readHostdata (s : State) : (readHostdata s).vint = s.vint := by
  unfold readHostdata reply64
  split <;> simp

/-! ## The device-control bus leaves STATUS.VINT -/

@[simp] theorem vint_tgWrite (r : BitVec 4) (v : W32) (s : State) : (tgWrite r v s).vint = s.vint := by
  unfold tgWrite
  split <;> rfl

@[simp] theorem vint_tgRead (r : BitVec 4) (s : State) : (tgRead r s).1.vint = s.vint := by
  unfold tgRead
  split <;> rfl

@[simp] theorem vint_clutWrite (c : Inst) (r : BitVec 4) (v : W32) (s : State) : (clutWrite c r v s).vint = s.vint := by
  unfold clutWrite
  split <;> simp

@[simp] theorem vint_pmrWrite (i : Inst) (r : BitVec 4) (v : W32) (s : State) : (pmrWrite i r v s).vint = s.vint := by
  unfold pmrWrite
  split <;> simp

@[simp] theorem vint_auxWrite (d : AuxId) (r : BitVec 4) (v : W32) (s : State) : (auxWrite d r v s).vint = s.vint :=
  State.setAux_vint ..

@[simp] theorem vint_slaveWrite (slave r : BitVec 4) (v : W32) (s : State) : (slaveWrite slave r v s).vint = s.vint := by
  unfold slaveWrite
  split <;> simp

@[simp] theorem vint_slaveRead (slave r : BitVec 4) (s : State) : (slaveRead slave r s).1.vint = s.vint := by
  unfold slaveRead
  split <;> simp

@[simp] theorem vint_dcbWriteTo (slave r : BitVec 4) (s : State) : (dcbWriteTo slave r s).vint = s.vint := by
  unfold dcbWriteTo
  simp only
  split <;> simp

@[simp] theorem vint_dcbReadFrom (slave r : BitVec 4) (s : State) : (dcbReadFrom slave r s).vint = s.vint := by
  unfold dcbReadFrom
  simp only
  split <;> simp

@[simp] theorem vint_dcbTimeout (s : State) : (dcbTimeout s).vint = s.vint := by
  unfold dcbTimeout
  split <;> simp

/-! ## The host accesses -/

theorem vint_hostRead (q : HostReg) (s : State) : (hostRead q s).vint = s.vint := by
  cases q with
  | ce r =>
    cases r with
    | dcbdata0 => exact vint_dcbReadFrom s.slavesel s.regsel s
    | _ => rfl
  | hostdata => exact vint_readHostdata s
  | xystarti | xyendi | status => rfl

/-- STATUS alone is a register whose write can change STATUS.VINT (R123). -/
theorem vint_hostWrite {q : HostReg} (hq : q ≠ .status) (v m : W64) (s : State) : (hostWrite q v m s).vint = s.vint := by
  cases q with
  | ce r =>
    cases r with
    | dcbdata0 => exact vint_dcbWriteTo _ _ (writePlain .dcbdata0 (v.setWidth 32) (m.setWidth 32) s)
    | _ => rfl
  | xystarti => exact (congrArg State.vint (writeXystarti_eq (v.setWidth 32) (m.setWidth 32) s) :)
  | xyendi => exact (congrArg State.vint (writeXyendi_eq (v.setWidth 32) (m.setWidth 32) s) :)
  | status => exact absurd rfl hq
  | hostdata => exact vint_writeHostdata v m s

theorem vint_writeStatus (v m : W32) (s : State) : (writeStatus v m s).vint = (s.vint && !(v &&& m).getLsbD 4) :=
  congrArg State.vint (writeStatus_eq v m s)

/-! ## The queries -/

@[simp] theorem vint_ensureDecoded (s : State) : (ensureDecoded s).vint = s.vint := by rw [ensureDecoded_eq]; rfl

theorem vint_nextDidEntry (s : State) : (nextDidEntry s).vint = s.vint := by rw [nextDidEntry_eq]

/-- The condition of R321: scanline VINT_LINE begins, with VINT_EN set. -/
def State.vintHit (s : State) (y : Nat) : Bool := s.vintEn && decide (y = s.tg.vintLine.toNat)

theorem State.vintHit_iff (s : State) (y : Nat) :
    s.vintHit y = true ↔ s.tg.displayCtrl.getLsbD 4 = true ∧ y = s.tg.vintLine.toNat := by
  simp [State.vintHit, State.vintEn]

theorem vint_beginLine (y : Nat) (s : State) : (beginLine y s).vint = (s.vint || s.vintHit y) :=
  congrArg State.vint (beginLine_frame y s).1

/-- Where the condition holds the VINT edge is given out (R321). -/
theorem vint_mem_out_beginLine {y : Nat} {s : State} (h : s.vintHit y = true) : Output.vint ∈ (beginLine y s).out := by
  obtain ⟨-, ⟨given, hout⟩, -⟩ := beginLine_frame y s
  rw [hout, if_pos (show (s.vintEn && decide (y = s.tg.vintLine.toNat)) = true from h)]
  simp

/-! ## Every request -/

/-- What the request `r` can make of STATUS.VINT between `s` and `t`. -/
inductive VintChange (r : Request) (s t : State) : Prop where
  | kept (h : t.vint = s.vint)
  | lineBegun (y : Nat) (hr : r = .query (.beginDidLine y)) (ht : t = beginLine y s)
  /-- A write of STATUS by either of its rows (R113, R129). -/
  | written (v m : W32) (hr : decode r = .ok (.wStatus v m) ∨ decode r = .ok (.gStatus v m))
      (ht : t.vint = (s.vint && !(v &&& m).getLsbD 4))
  | reset (hr : r = .hardReset ∨ r = .softReset) (ht : t.vint = false)

theorem vintChange_of_effect {r : Request} {s t : State} (h : Effect r s t) : VintChange r s t := by
  cases h with
  | read q => exact .kept (vint_hostRead q s)
  | write q v m hd =>
    by_cases hq : q = .status
    · subst hq
      exact .written _ _ (.inl hd) (vint_writeStatus ..)
    · exact .kept (vint_hostWrite hq v m s)
  | writeGo q v m hd =>
    by_cases hq : q = .status
    · subst hq
      exact .written _ _ (.inr hd) ((vint_go _).trans (vint_writeStatus ..))
    · exact .kept ((vint_go _).trans (vint_hostWrite hq v m s))
  | nothing => exact .kept rfl
  | command k => exact .kept (vint_commandOf k s)
  | dcbWrite slave reg => exact .kept (vint_dcbWriteTo slave reg s)
  | dcbRead slave reg => exact .kept (vint_dcbReadFrom slave reg s)
  | answers e => exact .kept rfl
  | decodes e => exact .kept (vint_ensureDecoded s)
  | beginLine y hr => exact .lineBegun y hr rfl
  | nextEntry => exact .kept (vint_nextDidEntry s)
  | timeout => exact .kept (vint_dcbTimeout s)
  | hardReset hr => exact .reset (.inl hr) rfl
  | softReset hr => exact .reset (.inr hr) rfl

/-- A request that sets STATUS.VINT begins scanline VINT_LINE with VINT_EN set, and gives the VINT edge (R321, R322). -/
theorem VintChange.of_set {r : Request} {s t : State} (h : VintChange r s t) (hs : s.vint = false) (ht : t.vint = true) :
    ∃ y, r = .query (.beginDidLine y) ∧ s.vintHit y = true ∧ Output.vint ∈ t.out := by
  cases h with
  | kept hkept => simp [hkept, hs] at ht
  | lineBegun y hr hbegun =>
    have hhit : s.vintHit y = true := by simpa [hbegun, vint_beginLine, hs] using ht
    exact ⟨y, hr, hhit, hbegun ▸ vint_mem_out_beginLine hhit⟩
  | written v m hr hwritten => simp [hwritten, hs] at ht
  | reset hr hreset => simp [hreset] at ht

/-- A request that clears STATUS.VINT writes 1 to STATUS bit 4 or is a reset (R322). -/
theorem VintChange.of_cleared {r : Request} {s t : State} (h : VintChange r s t) (hs : s.vint = true) (ht : t.vint = false) :
    (∃ v m, (decode r = .ok (.wStatus v m) ∨ decode r = .ok (.gStatus v m)) ∧ (v &&& m).getLsbD 4 = true) ∨
      r = .hardReset ∨ r = .softReset := by
  cases h with
  | kept hkept => simp [hkept, hs] at ht
  | lineBegun y hr hbegun => simp [hbegun, vint_beginLine, hs] at ht
  | written v m hr hwritten =>
    rw [hwritten, hs, Bool.true_and, Bool.not_eq_false'] at ht
    exact .inl ⟨v, m, hr, ht⟩
  | reset hr hreset => exact .inr hr

/-- Settles O56, by what the request the step takes can make of STATUS.VINT. -/
theorem vintSources : Obligations.VintSources := by
  intro s t h
  obtain ⟨-, rfl⟩ | ⟨r, rest, hinbox, he⟩ := step_next h
  · exact ⟨fun hs ht => by simp [hs] at ht, fun hs ht => by simp [hs] at ht⟩
  · have hchange := vintChange_of_effect he
    refine ⟨fun hs ht => ?set, fun hs ht => ⟨r, rest, hinbox, hchange.of_cleared hs ht⟩⟩
    case set =>
      obtain ⟨y, rfl, hhit, hout⟩ := hchange.of_set hs ht
      obtain ⟨hen, hline⟩ := (State.vintHit_iff _ y).1 hhit
      exact ⟨y, rest, hinbox, hen, hline, hout⟩

end Sys2Proof.Machine

/-! # The timing generator and its queries (47_timing_cursor.md)

The TG's rows as its register accesses, the decode of the timing tables, the entry lists, the cursor, and what the queries may
change. -/

namespace Sys2Proof.Machine

/-! ## The register table of the TG (R291 to R295) -/

/-- The rows of sub-address TG (R92). -/
theorem decodeDcb_tg (r : BitVec 4) :
    decodeDcb (1#1 ++ 0#4 ++ r) = dcbWriteTg r ∧ decodeDcb (0#1 ++ 0#4 ++ r) = dcbReadTg r := by
  induction r using bitVec4_cases <;> exact ⟨rfl, rfl⟩

/-- A write row of the TG is the write of DCBDATA0 to its register select. -/
theorem exec_dcbWriteTg (r : BitVec 4) (s : State) :
    exec (dcbWriteTg r) s = .next (tgWrite r s.ce.dcbdata0 s.answered) := by
  obtain ⟨hwrite, -⟩ := decodeDcb_tg r
  rw [← hwrite, exec_dcbWrite]
  rfl

/-- A read row of the TG is the access to its register select, which puts the value in DCBDATA0. -/
theorem exec_dcbReadTg (r : BitVec 4) (s : State) :
    exec (dcbReadTg r) s = .next ((tgRead r s.answered).1.setReg .dcbdata0 (tgRead r s.answered).2) := by
  obtain ⟨-, hread⟩ := decodeDcb_tg r
  rw [← hread, exec_dcbRead]
  rfl

/-- Settles O42: each row is the access to its register select, whose case of `tgWrite` or `tgRead` is the table's. -/
theorem tgRegisters : Obligations.TgRegisters := by
  intro s
  exact ⟨exec_dcbWriteTg 0 s, exec_dcbWriteTg 1 s, exec_dcbWriteTg 2 s, exec_dcbWriteTg 3 s, exec_dcbWriteTg 4 s,
    exec_dcbWriteTg 5 s, exec_dcbWriteTg 6 s, exec_dcbWriteTg 7 s, exec_dcbWriteTg 8 s, exec_dcbWriteTg 10 s,
    exec_dcbReadTg 0 s, exec_dcbReadTg 1 s, exec_dcbReadTg 2 s, exec_dcbReadTg 3 s, exec_dcbReadTg 4 s,
    exec_dcbReadTg 5 s, exec_dcbReadTg 6 s, exec_dcbReadTg 7 s, exec_dcbReadTg 8 s, exec_dcbReadTg 10 s⟩

/-- Settles O43: select 9 of `tgWrite` is a TRAM write, of `tgRead` a TRAM read, at RAM_ADDR. -/
theorem tgRamData : Obligations.TgRamData := by
  intro s
  refine ⟨⟨_, exec_dcbWriteTg 9 s, rfl, fun a => ?_⟩, exec_dcbReadTg 9 s⟩
  exact tramRead_tramWrite s.answered s.tg.ramAddr.toNat a (s.ce.dcbdata0.setWidth 16)

/-! ## The decode of the timing tables (R298, R299) -/

theorem decodeWindow_empty {s : State} (h : decodeAxis s s.tg.vtFramePtr = none ∨ decodeAxis s s.tg.vtLinePtr = none) :
    decodeWindow s = Window.empty := by
  unfold decodeWindow
  split
  · rename_i hframe hline
    simp [hframe, hline] at h
  · rfl

theorem decodeWindow_of_axes {s : State} {y0 y1 x0 x1 : Nat} (hframe : decodeAxis s s.tg.vtFramePtr = some (y0, y1))
    (hline : decodeAxis s s.tg.vtLinePtr = some (x0, x1)) :
    decodeWindow s = { x0 := x0, y0 := y0, x1 := x1, y1 := y1 } := by
  simp only [decodeWindow, hframe, hline]

/-- Settles O48: the walk has gathered `axisAcc`, the span of the visible runs; the window is the two tables' spans. -/
theorem timingTableDecode : Obligations.TimingTableDecode := by
  intro s
  refine ⟨fun ptr n hn hlen hend => ?table, fun h => decodeWindow_empty h,
    fun y0 y1 x0 x1 hframe hline => decodeWindow_of_axes hframe hline⟩
  case table =>
    rw [decodeAxis_eq s ptr n hn hlen hend]
    refine ⟨fun hinvisible => axisAcc_none hinvisible, fun f l hf hl hfirst hlast hbefore hafter => ?_⟩
    have hfl : f ≤ l := Nat.le_of_not_lt fun hlt => Bool.noConfusion ((hbefore l hlt).symm.trans hlast)
    exact axisAcc_some hl hfl hfirst hlast hbefore hafter

/-! ## The readouts (R300, R301) -/

/-- Settles O49: each readout is the decode, then its side of the window. -/
theorem readouts : Obligations.Readouts := by
  intro s
  have gives (side : Window → Int) :
      Host.Outcome.next (φ := Fault) (ρ := Refusal) ((ensureDecoded s).emit (.readout (side (ensureDecoded s).tg.win))) =
        .next (s.decoded.emit (.readout (side s.currentWindow))) := by
    rw [ensureDecoded_eq]
    rfl
  exact ⟨gives Window.x0, gives Window.y0, gives Window.x1, gives Window.y1⟩

/-! ## The line entries (R306, R307, R321) -/

section
variable {s : State}

theorem nextDidEntry_of_end (h : s.tg.lcEnd = true) : nextDidEntry s = s.emit (.didEntry none) := if_pos h

theorem nextDidEntry_of_terminator (h : s.tg.lcEnd = false) (hw : tramRead s s.tg.lc = didEnd) :
    nextDidEntry s = (s.setTg { s.tg with lcEnd := true }).emit (.didEntry none) := by
  simp [nextDidEntry, h, hw]

theorem nextDidEntry_of_entry (h : s.tg.lcEnd = false) (hw : tramRead s s.tg.lc ≠ didEnd) :
    nextDidEntry s = (s.setTg { s.tg with lc := (s.tg.lc + 1) % s.par.tramWords }).emit
      (.didEntry (some (didXstart (tramRead s s.tg.lc), didIndex (tramRead s s.tg.lc)))) := by
  simp [nextDidEntry, h, hw]

end

/-- `s` once `begin_did_line(y)` has decoded and checked for the vertical interrupt (R306, R321). -/
def State.lineChecked (s : State) (y : Nat) : State :=
  { s.decoded with vint := s.vint || s.vintHit y, out := s.decoded.out ++ (if s.vintHit y then [Output.vint] else []) }

theorem vintCheck_ensureDecoded (y : Nat) (s : State) : vintCheck y (ensureDecoded s) = s.lineChecked y := by
  rw [ensureDecoded_eq, vintCheck_eq]
  rfl

/-- The list of a scanline that has a line pointer of its own (R306). -/
theorem didListAddr_natCast (s : State) (y : Nat) :
    didListAddr s y = (tramRead s (s.tg.didFramePtr.toNat + y)).toNat % s.par.tramWords := by
  have haddr : ((s.tg.didFramePtr.toNat + (y : Int)) % s.par.tramWords).toNat =
      (s.tg.didFramePtr.toNat + y) % s.par.tramWords := by norm_cast
  rw [didListAddr, haddr, tramRead_mod]

theorem beginLine_of_disabled {s : State} (h : s.didEn = false) (y : Nat) :
    beginLine y s = ((s.lineChecked y).setTg { (s.lineChecked y).tg with lcEnd := true }).emit (.didEntry none) := by
  have hen : (s.lineChecked y).didEn = false := h
  simp [beginLine, vintCheck_ensureDecoded, hen]

theorem beginLine_of_scanline {s : State} (h : s.didEn = true) {y : Nat} (hy : y ≤ 65535) :
    beginLine y s = openLine (didListAddr s y) (s.lineChecked y) := by
  have hen : (s.lineChecked y).didEn = true := h
  have hlist : didListAddr (s.lineChecked y) y = didListAddr s y := rfl
  simp [beginLine, vintCheck_ensureDecoded, hen, scanlineOk, hy, hlist]

/-- Beyond scanline 65535 the line pointer is a free draw (log 23). -/
theorem beginLine_of_beyond {s : State} (h : s.didEn = true) {y : Nat} (hy : 65535 < y) :
    beginLine y s = openLine ((Config.linePointer s.lineDraws).toNat % s.par.tramWords)
      ((s.lineChecked y).setLineDraws (s.lineDraws + 1)) := by
  have hen : (s.lineChecked y).didEn = true := h
  have hcount : (s.lineChecked y).lineDraws = s.lineDraws ∧ (s.lineChecked y).par = s.par := ⟨rfl, rfl⟩
  simp [beginLine, vintCheck_ensureDecoded, hen, scanlineOk, hy, hcount]

theorem exec_beginDidLine (y : Nat) (s : State) : exec (.beginDidLine y) s = .next (beginLine y s) := by rfl

theorem exec_nextDidLineEntry (s : State) : exec .nextDidLineEntry s = .next (nextDidEntry s) := by rfl

/-- Settles O50: with DID_EN the line cursor restarts at the list, and a line entry is the word under the cursor. -/
theorem didLines : Obligations.DidLines := by
  intro s
  refine ⟨fun y => ⟨fun hoff => ?disabled, fun hon hy => ?scanline, fun hon hy => ?beyond⟩, fun h => ?ended,
    fun h hw => ?terminator, fun h hw => ?entry⟩
  case disabled => exact congrArg Host.Outcome.next (beginLine_of_disabled hoff y)
  case scanline =>
    refine ⟨_, exec_nextDidLineEntry _, ?_⟩
    rw [exec_beginDidLine, beginLine_of_scanline hon hy, didListAddr_natCast]
    rfl
  case beyond =>
    refine ⟨Config.linePointer s.lineDraws, _, exec_nextDidLineEntry _, ?_⟩
    rw [exec_beginDidLine, beginLine_of_beyond hon hy]
    rfl
  case ended => exact congrArg Host.Outcome.next (nextDidEntry_of_end h)
  case terminator => exact congrArg Host.Outcome.next (nextDidEntry_of_terminator h hw)
  case entry => exact congrArg Host.Outcome.next (nextDidEntry_of_entry h hw)

/-! ## The DID of a pixel (R308) -/

theorem didAt_of_disabled {s : State} (h : s.didEn = false) (y x : Int) : didAt s y x = 0 := by simp [didAt, h]

/-- With DID_EN set the DID is what the first `n` words of a list gather that ends there, or is as long as the bounded walk. -/
theorem didAt_eq_didAcc {s : State} {y : Int} {n : Nat} (hen : s.didEn = true) (hn : n ≤ s.par.tramWords)
    (h : ∀ k < n, tramRead s (didListAddr s y + k) ≠ didEnd)
    (hend : n = s.par.tramWords ∨ tramRead s (didListAddr s y + n) = didEnd) (x : Int) :
    didAt s y x = didAcc s x (didListAddr s y) n := by
  have hlist : didListAddr s y % s.par.tramWords = didListAddr s y := Nat.mod_mod ..
  rw [didAt, if_pos hen, ← didWalk_eq s x (didListAddr s y) n hn h hend, hlist]

/-- Settles O51: the walk has gathered `didAcc`, the last entry at or left of the pixel. -/
theorem didForLastEntry : Obligations.DidForLastEntry := by
  intro y x s
  refine ⟨rfl, fun hoff => didAt_of_disabled hoff y x, fun n hon hn hentry hend => ?_⟩
  rw [didAt_eq_didAcc hon hn hentry hend]
  exact ⟨fun hright => didAcc_none hright, fun k hk hleft hafter => didAcc_last hk hleft hafter⟩

/-! ## The cursor (R312 to R316) -/

/-- (x, y) lies in the square of the glyph, whose first corner is the cursor's position (R313). -/
def State.inGlyph (s : State) (x y : Int) : Prop :=
  s.cursorPosX ≤ x ∧ x < s.cursorPosX + s.cursorSize ∧ s.cursorPosY ≤ y ∧ y < s.cursorPosY + s.cursorSize

/-- (x, y) lies in the square centred on the cursor's position (R314). -/
def State.inCross (s : State) (x y : Int) : Prop :=
  let half : Int := s.cursorSize / 2
  s.cursorPosX - half ≤ x ∧ x < s.cursorPosX + half ∧ s.cursorPosY - half ≤ y ∧ y < s.cursorPosY + half

section
variable {s : State} {x y : Int}

theorem glyphHit_of_outside (h : ¬ s.inGlyph x y) : glyphHit s x y = false := by
  refine if_neg fun hin => h ?_
  unfold State.inGlyph
  omega

theorem glyphHit_of_inside (h : s.inGlyph x y) :
    glyphHit s x y =
      (tramRead s (s.tg.cursorGlyphPtr.toNat + (y - s.cursorPosY).toNat * (s.cursorSize / 16)
        + (x - s.cursorPosX).toNat / 16)).getLsbD (15 - (x - s.cursorPosX).toNat % 16) := by
  unfold State.inGlyph at h
  exact if_pos (by omega)

theorem crossHit_iff : crossHit s x y = true ↔ s.inCross x y ∧ (x = s.cursorPosX ∨ y = s.cursorPosY) := by
  unfold crossHit State.inCross
  simp

theorem cursorAt_of_disabled (h : s.cursorEn = false) : cursorAt s x y = none := by simp [cursorAt, h]

theorem cursorAt_of_glyph (he : s.cursorEn = true) (hm : s.cursorCross = false) :
    cursorAt s x y = if glyphHit s x y = true then some (cursorColour s) else none := by
  simp [cursorAt, he, hm]

theorem cursorAt_of_cross (he : s.cursorEn = true) (hm : s.cursorCross = true) :
    cursorAt s x y = if crossHit s x y = true then some (cursorColour s) else none := by
  simp [cursorAt, he, hm]

end

/-- Settles O52, by the mode and then by the footprint. -/
theorem cursorPixel : Obligations.CursorPixel := by
  intro x y s
  refine ⟨rfl, fun hoff => cursorAt_of_disabled hoff, fun hon hglyph => ?glyph, fun hon hcross => ?cross⟩
  case glyph =>
    rw [cursorAt_of_glyph hon hglyph]
    refine ⟨fun hout => if_neg ?_, fun hin => ?_⟩
    · rw [glyphHit_of_outside hout]
      exact Bool.false_ne_true
    · rw [glyphHit_of_inside hin]
      exact ⟨fun hset => if_pos hset, fun hclear => if_neg (Bool.not_eq_true _ ▸ hclear)⟩
  case cross =>
    rw [cursorAt_of_cross hon hcross]
    exact ⟨fun hhit => if_pos (crossHit_iff.2 hhit), fun hmiss => if_neg (mt crossHit_iff.1 hmiss)⟩

/-! ## What the queries may change (R309) -/

/-- What a query that has moved from `s` to `t` may have written: the line cursor, the decode cache and what is given out, and
STATUS.VINT only where `begins`, the count of drawn line pointers only where `draws` (log 23). -/
structure QueryWrites (begins draws : Prop) (s t : State) : Prop where
  frame : t = { s with
    vint := t.vint, out := t.out, lineDraws := t.lineDraws,
    tg := { s.tg with dirty := t.tg.dirty, win := t.tg.win, lc := t.tg.lc, lcEnd := t.tg.lcEnd } }
  out : ∃ given, t.out = s.out ++ given
  vint : ¬ begins → t.vint = s.vint
  lineDraws : ¬ draws → t.lineDraws = s.lineDraws

theorem QueryWrites.of_emit (begins draws : Prop) (s : State) (e : Output) : QueryWrites begins draws s (s.emit e) :=
  ⟨rfl, ⟨[e], rfl⟩, fun _ => rfl, fun _ => rfl⟩

theorem QueryWrites.of_decode (begins draws : Prop) (s : State) (e : Output) :
    QueryWrites begins draws s ((ensureDecoded s).emit e) := by
  rw [ensureDecoded_eq]
  exact ⟨rfl, ⟨_, List.append_assoc ..⟩, fun _ => rfl, fun _ => rfl⟩

theorem QueryWrites.of_nextDidEntry (begins draws : Prop) (s : State) : QueryWrites begins draws s (nextDidEntry s) := by
  have heq := nextDidEntry_eq s
  have hout := nextDidEntry_out s
  generalize nextDidEntry s = t at heq hout ⊢
  rw [heq]
  exact ⟨rfl, hout, fun _ => rfl, fun _ => rfl⟩

theorem QueryWrites.of_beginLine {begins draws : Prop} {y : Nat} (hbegins : begins) (hdraws : 65535 < y → draws) (s : State) :
    QueryWrites begins draws s (beginLine y s) := by
  obtain ⟨hframe, ⟨given, hout⟩, hcount⟩ := beginLine_frame y s
  rw [State.decoded, List.append_assoc, List.append_assoc] at hout
  refine ⟨?_, ⟨_, hout⟩, fun h => absurd hbegins h, fun h => hcount (decide_eq_true ?_)⟩
  · generalize beginLine y s = t at hframe ⊢
    rw [hframe]
  · exact Nat.le_of_not_lt (mt hdraws h)

/-- Every query the decoder reads, query by query. -/
theorem exec_query_writes {q : Query} {i : Instr} (hd : decode (.query q) = .ok i) (s : State) :
    ∃ t, exec i s = .next t ∧ QueryWrites (∃ y, q = .beginDidLine y) (∃ y, 65535 < y ∧ q = .beginDidLine y) s t := by
  cases q with
  | readoutX0 | readoutY0 | readoutX1 | readoutY1 | displayPixel _ _ => cases hd; exact ⟨_, rfl, .of_decode ..⟩
  | didFor _ _ | getCursorPixel _ _ | is8bpp | modeEntry _ | cursorCmap | popupCmap => cases hd; exact ⟨_, rfl, .of_emit ..⟩
  | nextDidLineEntry => cases hd; exact ⟨_, exec_nextDidLineEntry s, .of_nextDidEntry ..⟩
  | beginDidLine y =>
    cases hd
    exact ⟨_, exec_beginDidLine y s, .of_beginLine ⟨y, rfl⟩ (fun hy => ⟨y, hy, rfl⟩) s⟩
  | paletteBase c =>
    rw [decode_paletteBase] at hd
    split at hd <;> cases hd
    match c, ‹c < 2› with
    | 0, _ => exact ⟨_, exec_paletteBase .zero s, .of_emit ..⟩
    | 1, _ => exact ⟨_, exec_paletteBase .one s, .of_emit ..⟩

/-- Settles O55, from what each query writes. -/
theorem queriesFrame : Obligations.QueriesFrame := by
  intro q i s hd
  obtain ⟨t, ht, hframe, hout, hvint, hcount⟩ := exec_query_writes hd s
  exact ⟨t, ht, hframe, hout, fun hq => hvint fun ⟨y, hy⟩ => hq y hy, fun hq => hcount fun ⟨y, hlt, hy⟩ => hq y hlt hy⟩

end Sys2Proof.Machine

/-! # The device-control bus (48_dcb.md)

The register files of the analogue stage and the latches, the reserved register selects, and the timeout. -/

namespace Sys2Proof.Machine

/-! ## The placeholder register files (R346) -/

/-- The row that writes register `k` of a placeholder file. -/
def AuxId.writeRow (d : AuxId) (k : BitVec 4) : Instr :=
  match d with
  | .analog => .dcbwAnalogR k
  | .latch0 => .dcbwLatch0R k
  | .latch1 => .dcbwLatch1R k

/-- The row that reads register `k` of a placeholder file. -/
def AuxId.readRow (d : AuxId) (k : BitVec 4) : Instr :=
  match d with
  | .analog => .dcbrAnalogR k
  | .latch0 => .dcbrLatch0R k
  | .latch1 => .dcbrLatch1R k

theorem exec_auxWriteRow (d : AuxId) (k : BitVec 4) (s : State) :
    exec (d.writeRow k) s = .next (auxWrite d k s.ce.dcbdata0 s.answered) := by
  cases d <;> rfl

theorem exec_auxReadRow (d : AuxId) (k : BitVec 4) (s : State) :
    exec (d.readRow k) s = .next (s.answeredWith (auxRead d k s)) := by
  cases d <;> rfl

/-- Settles O44: a write row is `auxWrite`, which `aux_auxWrite` reads back through every register; a read row is `auxRead`. -/
theorem auxRegisters : Obligations.AuxRegisters := by
  intro k s wrote
  have stored (d : AuxId) := aux_auxWrite d k s.ce.dcbdata0 s.answered
  exact ⟨⟨_, exec_auxWriteRow .analog k s, rfl, stored .analog⟩, ⟨_, exec_auxWriteRow .latch0 k s, rfl, stored .latch0⟩,
    ⟨_, exec_auxWriteRow .latch1 k s, rfl, stored .latch1⟩, exec_auxReadRow .analog k s, exec_auxReadRow .latch0 k s,
    exec_auxReadRow .latch1 k s⟩

/-! ## The reserved register selects (R278, R334) -/

/-- Register select `r` of a responding sub-address has no register: 11 and above of the TG, 3 and above of a CLUT, 7 and above
of a PMR. -/
def reservedSelect (slave r : BitVec 4) : Bool :=
  match slave.toNat with
  | 0 => 11 ≤ r.toNat
  | 1 | 2 | 3 => 3 ≤ r.toNat
  | 4 | 5 | 6 => 7 ≤ r.toNat
  | _ => false

section
variable {r : BitVec 4} (s : State)

theorem tgWrite_of_reserved (h : 11 ≤ r.toNat) (v : W32) : tgWrite r v s = s := by
  unfold tgWrite
  split
  case h_11 => rfl
  all_goals omega

theorem tgRead_of_reserved (h : 11 ≤ r.toNat) : tgRead r s = (s, 0) := by
  unfold tgRead
  split
  case h_12 => rfl
  all_goals omega

theorem clutWrite_of_reserved (h : 3 ≤ r.toNat) (c : Inst) (v : W32) : clutWrite c r v s = s := by
  unfold clutWrite
  split
  case h_3 => rfl
  all_goals omega

theorem clutRead_of_reserved (h : 3 ≤ r.toNat) (c : Inst) : clutRead c r s = 0 := by
  unfold clutRead
  split
  case h_4 => rfl
  all_goals omega

theorem pmrWrite_of_reserved (h : 7 ≤ r.toNat) (i : Inst) (v : W32) : pmrWrite i r v s = s := by
  unfold pmrWrite
  split
  case h_6 => rfl
  all_goals omega

theorem pmrRead_of_reserved (h : 7 ≤ r.toNat) (i : Inst) : pmrRead i r s = 0 := by
  unfold pmrRead
  split
  case h_8 => rfl
  all_goals omega

end

/-- The sub-addresses that have reserved selects, with what makes a select of each reserved. -/
theorem reservedSelect_cases {slave r : BitVec 4} (h : reservedSelect slave r = true) :
    (slave = 0 ∧ 11 ≤ r.toNat) ∨ ((slave = 1 ∨ slave = 2 ∨ slave = 3) ∧ 3 ≤ r.toNat) ∨
      ((slave = 4 ∨ slave = 5 ∨ slave = 6) ∧ 7 ≤ r.toNat) := by
  revert slave r
  decide

/-- A reserved select ignores what is written (R334). -/
theorem dcbWriteTo_of_reserved {slave r : BitVec 4} (h : reservedSelect slave r = true) (s : State) :
    dcbWriteTo slave r s = s.answered := by
  obtain ⟨rfl, hr⟩ | ⟨rfl | rfl | rfl, hr⟩ | ⟨rfl | rfl | rfl, hr⟩ := reservedSelect_cases h
  · exact tgWrite_of_reserved s.answered hr _
  · exact (clutWrite_of_reserved _ hr .one _).trans (clutWrite_of_reserved s.answered hr .zero _)
  · exact clutWrite_of_reserved s.answered hr .zero _
  · exact clutWrite_of_reserved s.answered hr .one _
  · exact (pmrWrite_of_reserved _ hr .one _).trans (pmrWrite_of_reserved s.answered hr .zero _)
  · exact pmrWrite_of_reserved s.answered hr .zero _
  · exact pmrWrite_of_reserved s.answered hr .one _

/-- A reserved select is read as 0 (R334). -/
theorem dcbReadFrom_of_reserved {slave r : BitVec 4} (h : reservedSelect slave r = true) (s : State) :
    dcbReadFrom slave r s = s.answeredWith 0 := by
  obtain ⟨rfl, hr⟩ | ⟨rfl | rfl | rfl, hr⟩ | ⟨rfl | rfl | rfl, hr⟩ := reservedSelect_cases h
  · exact congrArg (fun q : State × W32 => q.1.setReg .dcbdata0 q.2) (tgRead_of_reserved s.answered hr)
  · exact congrArg s.answeredWith (clutRead_of_reserved s.answered hr .zero)
  · exact congrArg s.answeredWith (clutRead_of_reserved s.answered hr .zero)
  · exact congrArg s.answeredWith (clutRead_of_reserved s.answered hr .one)
  · exact congrArg s.answeredWith (pmrRead_of_reserved s.answered hr .zero)
  · exact congrArg s.answeredWith (pmrRead_of_reserved s.answered hr .zero)
  · exact congrArg s.answeredWith (pmrRead_of_reserved s.answered hr .one)

/-- Settles O45: each row is the transaction of its sub-address and select, and that select is reserved. -/
theorem reservedSelects : Obligations.ReservedSelects := by
  intro a b s
  have write (slave r : BitVec 4) (h : reservedSelect slave r = true) :
      Host.Outcome.next (φ := Fault) (ρ := Refusal) (dcbWriteTo slave r s) = .next s.answered :=
    congrArg _ (dcbWriteTo_of_reserved h s)
  have read (slave r : BitVec 4) (h : reservedSelect slave r = true) :
      Host.Outcome.next (φ := Fault) (ρ := Refusal) (dcbReadFrom slave r s) = .next (s.answeredWith 0) :=
    congrArg _ (dcbReadFrom_of_reserved h s)
  -- Both instances of a pair have the reserved selects of the pair, so one fact serves all three sub-addresses.
  have tg12to15 : reservedSelect 0 (0b11#2 ++ a) = true := by revert a; decide
  have clut4to7 : reservedSelect 1 (0b01#2 ++ a) = true := by revert a; decide
  have clut8to15 : reservedSelect 1 (0b1#1 ++ b) = true := by revert b; decide
  have pmr8to15 : reservedSelect 4 (0b1#1 ++ b) = true := by revert b; decide
  simp only [List.forall_mem_cons, List.not_mem_nil, false_implies, implies_true, and_true]
  exact ⟨⟨write 0 11 rfl, write 0 _ tg12to15, write 1 3 rfl, write 1 _ clut4to7, write 1 _ clut8to15,
      write 2 3 rfl, write 2 _ clut4to7, write 2 _ clut8to15, write 3 3 rfl, write 3 _ clut4to7, write 3 _ clut8to15,
      write 4 7 rfl, write 4 _ pmr8to15, write 5 7 rfl, write 5 _ pmr8to15, write 6 7 rfl, write 6 _ pmr8to15⟩,
    read 0 11 rfl, read 0 _ tg12to15, read 1 3 rfl, read 1 _ clut4to7, read 1 _ clut8to15,
      read 2 3 rfl, read 2 _ clut4to7, read 2 _ clut8to15, read 3 3 rfl, read 3 _ clut4to7, read 3 _ clut8to15,
      read 4 7 rfl, read 4 _ pmr8to15, read 5 7 rfl, read 5 _ pmr8to15, read 6 7 rfl, read 6 _ pmr8to15⟩

/-! ## The timeout (R335, R336, R338, R341) -/

/-- The sub-addresses of the rows without a component. -/
theorem responds_none : (∀ x : BitVec 1, responds (0b101#3 ++ x) = false) ∧ ∀ x : BitVec 2, responds (0b11#2 ++ x) = false := by
  decide

theorem exec_dcbTimeout (s : State) : exec .dcbTimeout s = .next (dcbTimeout s) := by rfl

/-- Settles O47: each row is a transaction that no component answers, and the event is enabled while one is pending. -/
theorem dcbTimeout_holds : Obligations.DcbTimeout := by
  intro a b s
  obtain ⟨none10to11, none12to15⟩ := responds_none
  have write {slave : BitVec 4} (h : responds slave = false) (r : BitVec 4) :
      Host.Outcome.next (φ := Fault) (ρ := Refusal) (dcbWriteTo slave r s) = .next { s with dcbPending := true } :=
    congrArg _ (dcb_unanswered h r s).1
  have read {slave : BitVec 4} (h : responds slave = false) (r : BitVec 4) :
      Host.Outcome.next (φ := Fault) (ρ := Refusal) (dcbReadFrom slave r s) = .next { s with dcbPending := true } :=
    congrArg _ (dcb_unanswered h r s).2
  refine ⟨?armed, fun h => ?event⟩
  case armed =>
    simp only [List.forall_mem_cons, List.not_mem_nil, false_implies, implies_true, and_true]
    exact ⟨write (none10to11 _) _, write (none12to15 _) _, read (none10to11 _) _, read (none12to15 _) _⟩
  case event => rw [exec_dcbTimeout, dcbTimeout_of_pending h]

end Sys2Proof.Machine

/-! # Completion and the resets (60_exceptions.md R351, 70_reset_and_hazards.md R381 to R383)

Every well-formed instruction completes, the two resets leave the same state but for the tables, and the reset state has the
values of R383 and satisfies the invariant. -/

namespace Sys2Proof.Machine

/-! ## Completion (R351) -/

/-- Settles O6: a well-formed instruction is what the decoder reads from its own encoding, and what the decoder reads
completes. -/
theorem everyInstructionCompletes : Obligations.EveryInstructionCompletes :=
  fun i s hi => exec_of_decode (decodeEncode i hi) s

/-! ## Memories no write has reached since their draw (R16) -/

theorem cellAt_of_planes_reset {s : State} (h : s.planes = Planes.reset) (p : PlaneId) (a : Nat) :
    cellAt s p a = Config.planeDraw s.draws p.num a := by
  rw [cellAt, h]
  cases p <;> rfl

theorem tramRead_of_tram_nil {s : State} (h : s.tram = []) (a : Nat) :
    tramRead s a = Config.tramDraw s.draws (a % s.par.tramWords) := by
  rw [tramRead, h]; rfl

theorem clutEntry_of_table_nil {s : State} {c : Inst} (h : (s.clut c).table = []) (i : Nat) :
    clutEntry s c i = Config.clutDraw s.tableDraws c.num (i % s.par.clutEntries) := by
  rw [clutEntry, h]; rfl

theorem modeTableEntry_of_mode_nil {s : State} {i : Inst} (h : (s.pmr i).mode = []) (j : Nat) :
    modeTableEntry s i j = Config.modeDraw s.tableDraws i.num (j % 32) := by
  rw [modeTableEntry, h]; rfl

/-! ## The two resets (R381, R382) -/

theorem exec_hardReset (s : State) : exec .hardReset s = .next (hardReset s) := by rfl

theorem exec_softReset (s : State) : exec .softReset s = .next (softReset s) := by rfl

/-- What a hard and a soft reset share: the reset state with the planes and TRAM drawn anew, under the parameters, the schedule,
the outputs and the line count of `s` (logs 15, 23). The draw `n` of the tables and what the tables hold are left open. -/
def State.resetWith (s : State) (n : Nat) (modes : Inst → Memory 8) (tables : Inst → Memory 24) : State :=
  { State.reset with
    par := s.par, inbox := s.inbox, out := s.out, lineDraws := s.lineDraws, draws := s.draws + 1, tableDraws := n,
    pmr0 := { Pmr.reset with mode := modes .zero }, pmr1 := { Pmr.reset with mode := modes .one },
    clut0 := { Clut.reset with table := tables .zero }, clut1 := { Clut.reset with table := tables .one } }

/-- A hard reset empties the tables (R381). -/
theorem hardReset_eq (s : State) : hardReset s = s.resetWith (s.tableDraws + 1) (fun _ => []) (fun _ => []) := rfl

/-- A soft reset keeps the tables (R382). -/
theorem softReset_eq (s : State) :
    softReset s = s.resetWith s.tableDraws (fun i => (s.pmr i).mode) (fun c => (s.clut c).table) := rfl

section
variable (s : State) (n : Nat) (modes : Inst → Memory 8) (tables : Inst → Memory 24)

theorem State.pmr_resetWith (i : Inst) : (s.resetWith n modes tables).pmr i = { Pmr.reset with mode := modes i } := by
  cases i <;> rfl

theorem State.clut_resetWith (c : Inst) : (s.resetWith n modes tables).clut c = { Clut.reset with table := tables c } := by
  cases c <;> rfl

end

theorem clutEntry_hardReset (s : State) (c : Inst) (i : Nat) :
    clutEntry (hardReset s) c i = Config.clutDraw (s.tableDraws + 1) c.num (i % s.par.clutEntries) := by
  rw [hardReset_eq, clutEntry_of_table_nil (by rw [State.clut_resetWith])]
  rfl

theorem modeTableEntry_hardReset (s : State) (i : Inst) (j : Nat) :
    modeTableEntry (hardReset s) i j = Config.modeDraw (s.tableDraws + 1) i.num (j % 32) := by
  rw [hardReset_eq, modeTableEntry_of_mode_nil (by rw [State.pmr_resetWith])]
  rfl

theorem clutEntry_softReset (s : State) (c : Inst) (i : Nat) : clutEntry (softReset s) c i = clutEntry s c i := by
  rw [softReset_eq, clutEntry, State.clut_resetWith]
  rfl

theorem modeTableEntry_softReset (s : State) (i : Inst) (j : Nat) :
    modeTableEntry (softReset s) i j = modeTableEntry s i j := by
  rw [softReset_eq, modeTableEntry, State.pmr_resetWith]
  rfl

/-- Settles O57: what the two resets share is said once, by `State.resetWith`; they differ in the tables. -/
theorem resets : Obligations.Resets := by
  intro s
  refine ⟨hardReset s, softReset s, exec_hardReset s, exec_softReset s, ?shared,
    fun c i => ⟨clutEntry_hardReset s c i, clutEntry_softReset s c i⟩,
    fun i j => ⟨modeTableEntry_hardReset s i j, modeTableEntry_softReset s i j⟩⟩
  case shared =>
    intro u hu
    obtain ⟨n, modes, tables, rfl⟩ : ∃ n modes tables, u = s.resetWith n modes tables := by
      obtain rfl | rfl := List.mem_pair.mp hu
      · exact ⟨_, _, _, hardReset_eq s⟩
      · exact ⟨_, _, _, softReset_eq s⟩
    refine ⟨rfl, rfl, rfl, rfl, rfl, rfl, rfl, rfl, rfl, rfl, rfl, rfl, rfl, rfl, fun i => ?pmr, fun c => ?clut,
      cellAt_of_planes_reset rfl, tramRead_of_tram_nil rfl⟩
    case pmr => rw [State.pmr_resetWith]; exact ⟨rfl, rfl, rfl, rfl⟩
    case clut => rw [State.clut_resetWith]; rfl

/-! ## The reset state (R383) -/

theorem CeRegs.get_reset (r : Reg) :
    CeRegs.reset.get r =
      if r = .drawmode1 then 0x00000260 else if r = .wrmask then 0xFFFFFFFF else if r = .clipmax then 0x7FFF7FFF else 0 := by
  cases r <;> rfl

theorem statusWord_reset : statusWord State.reset = 0 := by decide

theorem State.aux_reset (d : AuxId) : State.reset.aux d = AuxRegs.reset := by cases d <;> rfl

/-- Settles O58, register by register. -/
theorem resetValues : Obligations.ResetValues := by
  have status : exec .rStatus State.reset = .next { State.reset with out := [.data32 0] } := by
    rw [← statusWord_reset]
    exact exec_readInstr .status State.reset
  have pmrs (i : Inst) : State.reset.pmr i = Pmr.reset := by cases i <;> rfl
  have cluts (c : Inst) : State.reset.clut c = Clut.reset := by cases c <;> rfl
  refine ⟨CeRegs.get_reset, status, rfl, rfl, rfl, fun i => ?pmr, fun c => ?clut, rfl, fun d j => ?aux⟩
  case pmr => rw [pmrs i]; exact ⟨rfl, rfl, rfl, rfl⟩
  case clut => rw [cluts c]; rfl
  case aux => rw [State.aux_reset d]; exact Vector.getElem_replicate j.isLt

/-- R9's defaults are legal (R271, R293). -/
theorem Params.default_wf : Params.default.wf = true := rfl

/-- Settles O59: no memory lists a cell, every register with reserved bits is 0 but DRAWMODE1, and the TG is dirty. -/
theorem resetInv : Obligations.ResetInv where
  parameters := Params.default_wf
  canonical := ⟨fun p => by cases p <;> rfl, fun c => by cases c <;> rfl, fun i => by cases i <;> rfl, rfl⟩
  reserved := ⟨BitVec.zero_and, (by decide : (0x260 : W32) &&& ~~~0x3FFFF = 0), BitVec.zero_and, BitVec.zero_and,
    fun i => by cases i <;> exact BitVec.zero_and, BitVec.zero_and⟩
  indices := ⟨fun c => by cases c <;> decide, by decide⟩
  transfer := Xfer.reset_cursorInside
  window := fun hd => absurd hd Bool.noConfusion
  count := Nat.zero_le _

end Sys2Proof.Machine
